-- ==== Sys2Proof/Word.lean ====
section
/-! DEFINITION. The word types of gb-emu CORE and the operand names its encodings select (spec/10_state.md R20 to R27,
spec/30_encoding.md R83 to R86). Plain types only: every computation stands in a file a repair may mend. -/

namespace Sys2Proof

/-- The addressable unit and the width of a general register (R5). -/
abbrev Byte := BitVec 8

/-- An address, a register pair, PC or SP (R5). -/
abbrev Word := BitVec 16

/-- The seven 8-bit registers (R20). -/
inductive Reg8 where
  | b | c | d | e | h | l | a
deriving DecidableEq, Repr

/-- The four 16-bit pair views (R24): also table B of R84, the operands of PUSH and POP. -/
inductive PairView where
  | bc | de | hl | af
deriving DecidableEq, Repr

/-- Table A of R84: the operands of INC rr, DEC rr and ADD HL,rr. -/
inductive PairSel where
  | bc | de | hl | sp
deriving DecidableEq, Repr

/-- The condition codes that have a selector (R86). -/
inductive Cond where
  | nz | z | nc | c
deriving DecidableEq, Repr

/-- The eight 8-bit ALU operations (R85). -/
inductive AluOp where
  | add | adc | sub | sbc | and | xor | or | cp
deriving DecidableEq, Repr

/-- The four accumulator rotates (R190 to R193). -/
inductive RotA where
  | rlca | rrca | rla | rra
deriving DecidableEq, Repr

/-- The eight one-bit shift kinds of the secondary space (R201). -/
inductive ShiftKind where
  | rlc | rrc | rl | rr | sla | sra | swap | srl
deriving DecidableEq, Repr

/-- The bit index of BIT, RES and SET (R95). -/
inductive BitIdx where
  | b0 | b1 | b2 | b3 | b4 | b5 | b6 | b7
deriving DecidableEq, Repr

/-- The four instruction formats of R80, and `noInstr` for a byte that is no instruction (R98). -/
inductive Format where
  | op | opN | opNN | cbOp | noInstr
deriving DecidableEq, Repr

end Sys2Proof
end

