-- ==== Sys2Proof/Decode.lean ====
section
/-! DEFINITION. Decoding and encoding (spec/30_encoding.md). The decoder reads the bit fields x, y, z of R81 and follows
the group table R82 and the secondary map R95; the encoder is the opcode column of spec/opcode_table.json. The opcode
numbers are the spec's own choice (its decision D1). -/

namespace Sys2Proof

/-- An instruction by family and operands: the group table of R82 and the secondary map of R95, one alternative per
group and operand kind. -/
inductive Form where
  | nop | halt
  | rotA (k : RotA)
  | aluReg (o : AluOp) (r : Reg8) | aluMem (o : AluOp) | aluImm (o : AluOp)
  | addHl (p : PairSel)
  | incReg (r : Reg8) | incMem | decReg (r : Reg8) | decMem
  | inc16 (p : PairSel) | dec16 (p : PairSel)
  | push (p : PairView) | pop (p : PairView)
  | jp | jpCc (cc : Cond) | call | callCc (cc : Cond) | ret | retCc (cc : Cond)
  | ldReg (dst r : Reg8) | ldImm (dst : Reg8) | ldMem (dst : Reg8) | stReg (r : Reg8) | stImm
  | shiftReg (k : ShiftKind) (r : Reg8) | shiftMem (k : ShiftKind)
  | bitReg (b : BitIdx) (r : Reg8) | bitMem (b : BitIdx)
  | resReg (b : BitIdx) (r : Reg8) | resMem (b : BitIdx)
  | setReg (b : BitIdx) (r : Reg8) | setMem (b : BitIdx)
  | prefixByte
  | unrecognized (op : Byte)
deriving DecidableEq, Repr

/-! ### The row of each form -/

def rotAInstr : RotA → Instr
  | .rlca => .rlca | .rrca => .rrca | .rla => .rla | .rra => .rra

def aluRegInstr : AluOp → Reg8 → Instr
  | .add, .b => .add_A_B | .add, .c => .add_A_C | .add, .d => .add_A_D | .add, .e => .add_A_E | .add, .h => .add_A_H | .add, .l => .add_A_L | .add, .a => .add_A_A
  | .adc, .b => .adc_A_B | .adc, .c => .adc_A_C | .adc, .d => .adc_A_D | .adc, .e => .adc_A_E | .adc, .h => .adc_A_H | .adc, .l => .adc_A_L | .adc, .a => .adc_A_A
  | .sub, .b => .sub_B | .sub, .c => .sub_C | .sub, .d => .sub_D | .sub, .e => .sub_E | .sub, .h => .sub_H | .sub, .l => .sub_L | .sub, .a => .sub_A
  | .sbc, .b => .sbc_A_B | .sbc, .c => .sbc_A_C | .sbc, .d => .sbc_A_D | .sbc, .e => .sbc_A_E | .sbc, .h => .sbc_A_H | .sbc, .l => .sbc_A_L | .sbc, .a => .sbc_A_A
  | .and, .b => .and_B | .and, .c => .and_C | .and, .d => .and_D | .and, .e => .and_E | .and, .h => .and_H | .and, .l => .and_L | .and, .a => .and_A
  | .xor, .b => .xor_B | .xor, .c => .xor_C | .xor, .d => .xor_D | .xor, .e => .xor_E | .xor, .h => .xor_H | .xor, .l => .xor_L | .xor, .a => .xor_A
  | .or, .b => .or_B | .or, .c => .or_C | .or, .d => .or_D | .or, .e => .or_E | .or, .h => .or_H | .or, .l => .or_L | .or, .a => .or_A
  | .cp, .b => .cp_B | .cp, .c => .cp_C | .cp, .d => .cp_D | .cp, .e => .cp_E | .cp, .h => .cp_H | .cp, .l => .cp_L | .cp, .a => .cp_A

def aluMemInstr : AluOp → Instr
  | .add => .add_A_mHL | .adc => .adc_A_mHL | .sub => .sub_mHL | .sbc => .sbc_A_mHL
  | .and => .and_mHL | .xor => .xor_mHL | .or => .or_mHL | .cp => .cp_mHL

def aluImmInstr : AluOp → Instr
  | .add => .add_A_n | .adc => .adc_A_n | .sub => .sub_n | .sbc => .sbc_A_n
  | .and => .and_n | .xor => .xor_n | .or => .or_n | .cp => .cp_n

def addHlInstr : PairSel → Instr
  | .bc => .add_HL_BC | .de => .add_HL_DE | .hl => .add_HL_HL | .sp => .add_HL_SP

def incRegInstr : Reg8 → Instr
  | .b => .inc_B | .c => .inc_C | .d => .inc_D | .e => .inc_E | .h => .inc_H | .l => .inc_L | .a => .inc_A

def decRegInstr : Reg8 → Instr
  | .b => .dec_B | .c => .dec_C | .d => .dec_D | .e => .dec_E | .h => .dec_H | .l => .dec_L | .a => .dec_A

def inc16Instr : PairSel → Instr
  | .bc => .inc_BC | .de => .inc_DE | .hl => .inc_HL | .sp => .inc_SP

def dec16Instr : PairSel → Instr
  | .bc => .dec_BC | .de => .dec_DE | .hl => .dec_HL | .sp => .dec_SP

def pushInstr : PairView → Instr
  | .bc => .push_BC | .de => .push_DE | .hl => .push_HL | .af => .push_AF

def popInstr : PairView → Instr
  | .bc => .pop_BC | .de => .pop_DE | .hl => .pop_HL | .af => .pop_AF

def jpCcInstr : Cond → Instr
  | .nz => .jp_NZ_nn | .z => .jp_Z_nn | .nc => .jp_NC_nn | .c => .jp_C_nn

def callCcInstr : Cond → Instr
  | .nz => .call_NZ_nn | .z => .call_Z_nn | .nc => .call_NC_nn | .c => .call_C_nn

def retCcInstr : Cond → Instr
  | .nz => .ret_NZ | .z => .ret_Z | .nc => .ret_NC | .c => .ret_C

def ldRegInstr : Reg8 → Reg8 → Instr
  | .b, .b => .ld_B_B | .b, .c => .ld_B_C | .b, .d => .ld_B_D | .b, .e => .ld_B_E | .b, .h => .ld_B_H | .b, .l => .ld_B_L | .b, .a => .ld_B_A
  | .c, .b => .ld_C_B | .c, .c => .ld_C_C | .c, .d => .ld_C_D | .c, .e => .ld_C_E | .c, .h => .ld_C_H | .c, .l => .ld_C_L | .c, .a => .ld_C_A
  | .d, .b => .ld_D_B | .d, .c => .ld_D_C | .d, .d => .ld_D_D | .d, .e => .ld_D_E | .d, .h => .ld_D_H | .d, .l => .ld_D_L | .d, .a => .ld_D_A
  | .e, .b => .ld_E_B | .e, .c => .ld_E_C | .e, .d => .ld_E_D | .e, .e => .ld_E_E | .e, .h => .ld_E_H | .e, .l => .ld_E_L | .e, .a => .ld_E_A
  | .h, .b => .ld_H_B | .h, .c => .ld_H_C | .h, .d => .ld_H_D | .h, .e => .ld_H_E | .h, .h => .ld_H_H | .h, .l => .ld_H_L | .h, .a => .ld_H_A
  | .l, .b => .ld_L_B | .l, .c => .ld_L_C | .l, .d => .ld_L_D | .l, .e => .ld_L_E | .l, .h => .ld_L_H | .l, .l => .ld_L_L | .l, .a => .ld_L_A
  | .a, .b => .ld_A_B | .a, .c => .ld_A_C | .a, .d => .ld_A_D | .a, .e => .ld_A_E | .a, .h => .ld_A_H | .a, .l => .ld_A_L | .a, .a => .ld_A_A

def ldImmInstr : Reg8 → Instr
  | .b => .ld_B_n | .c => .ld_C_n | .d => .ld_D_n | .e => .ld_E_n
  | .h => .ld_H_n | .l => .ld_L_n | .a => .ld_A_n

def ldMemInstr : Reg8 → Instr
  | .b => .ld_B_mHL | .c => .ld_C_mHL | .d => .ld_D_mHL | .e => .ld_E_mHL
  | .h => .ld_H_mHL | .l => .ld_L_mHL | .a => .ld_A_mHL

def stRegInstr : Reg8 → Instr
  | .b => .ld_mHL_B | .c => .ld_mHL_C | .d => .ld_mHL_D | .e => .ld_mHL_E | .h => .ld_mHL_H | .l => .ld_mHL_L | .a => .ld_mHL_A

def shiftRegInstr : ShiftKind → Reg8 → Instr
  | .rlc, .b => .rlc_B | .rlc, .c => .rlc_C | .rlc, .d => .rlc_D | .rlc, .e => .rlc_E | .rlc, .h => .rlc_H | .rlc, .l => .rlc_L | .rlc, .a => .rlc_A
  | .rrc, .b => .rrc_B | .rrc, .c => .rrc_C | .rrc, .d => .rrc_D | .rrc, .e => .rrc_E | .rrc, .h => .rrc_H | .rrc, .l => .rrc_L | .rrc, .a => .rrc_A
  | .rl, .b => .rl_B | .rl, .c => .rl_C | .rl, .d => .rl_D | .rl, .e => .rl_E | .rl, .h => .rl_H | .rl, .l => .rl_L | .rl, .a => .rl_A
  | .rr, .b => .rr_B | .rr, .c => .rr_C | .rr, .d => .rr_D | .rr, .e => .rr_E | .rr, .h => .rr_H | .rr, .l => .rr_L | .rr, .a => .rr_A
  | .sla, .b => .sla_B | .sla, .c => .sla_C | .sla, .d => .sla_D | .sla, .e => .sla_E | .sla, .h => .sla_H | .sla, .l => .sla_L | .sla, .a => .sla_A
  | .sra, .b => .sra_B | .sra, .c => .sra_C | .sra, .d => .sra_D | .sra, .e => .sra_E | .sra, .h => .sra_H | .sra, .l => .sra_L | .sra, .a => .sra_A
  | .swap, .b => .swap_B | .swap, .c => .swap_C | .swap, .d => .swap_D | .swap, .e => .swap_E | .swap, .h => .swap_H | .swap, .l => .swap_L | .swap, .a => .swap_A
  | .srl, .b => .srl_B | .srl, .c => .srl_C | .srl, .d => .srl_D | .srl, .e => .srl_E | .srl, .h => .srl_H | .srl, .l => .srl_L | .srl, .a => .srl_A

def shiftMemInstr : ShiftKind → Instr
  | .rlc => .rlc_mHL | .rrc => .rrc_mHL | .rl => .rl_mHL | .rr => .rr_mHL
  | .sla => .sla_mHL | .sra => .sra_mHL | .swap => .swap_mHL | .srl => .srl_mHL

def bitRegInstr : BitIdx → Reg8 → Instr
  | .b0, .b => .bit_0_B | .b0, .c => .bit_0_C | .b0, .d => .bit_0_D | .b0, .e => .bit_0_E | .b0, .h => .bit_0_H | .b0, .l => .bit_0_L | .b0, .a => .bit_0_A
  | .b1, .b => .bit_1_B | .b1, .c => .bit_1_C | .b1, .d => .bit_1_D | .b1, .e => .bit_1_E | .b1, .h => .bit_1_H | .b1, .l => .bit_1_L | .b1, .a => .bit_1_A
  | .b2, .b => .bit_2_B | .b2, .c => .bit_2_C | .b2, .d => .bit_2_D | .b2, .e => .bit_2_E | .b2, .h => .bit_2_H | .b2, .l => .bit_2_L | .b2, .a => .bit_2_A
  | .b3, .b => .bit_3_B | .b3, .c => .bit_3_C | .b3, .d => .bit_3_D | .b3, .e => .bit_3_E | .b3, .h => .bit_3_H | .b3, .l => .bit_3_L | .b3, .a => .bit_3_A
  | .b4, .b => .bit_4_B | .b4, .c => .bit_4_C | .b4, .d => .bit_4_D | .b4, .e => .bit_4_E | .b4, .h => .bit_4_H | .b4, .l => .bit_4_L | .b4, .a => .bit_4_A
  | .b5, .b => .bit_5_B | .b5, .c => .bit_5_C | .b5, .d => .bit_5_D | .b5, .e => .bit_5_E | .b5, .h => .bit_5_H | .b5, .l => .bit_5_L | .b5, .a => .bit_5_A
  | .b6, .b => .bit_6_B | .b6, .c => .bit_6_C | .b6, .d => .bit_6_D | .b6, .e => .bit_6_E | .b6, .h => .bit_6_H | .b6, .l => .bit_6_L | .b6, .a => .bit_6_A
  | .b7, .b => .bit_7_B | .b7, .c => .bit_7_C | .b7, .d => .bit_7_D | .b7, .e => .bit_7_E | .b7, .h => .bit_7_H | .b7, .l => .bit_7_L | .b7, .a => .bit_7_A

def bitMemInstr : BitIdx → Instr
  | .b0 => .bit_0_mHL | .b1 => .bit_1_mHL | .b2 => .bit_2_mHL | .b3 => .bit_3_mHL
  | .b4 => .bit_4_mHL | .b5 => .bit_5_mHL | .b6 => .bit_6_mHL | .b7 => .bit_7_mHL

def resRegInstr : BitIdx → Reg8 → Instr
  | .b0, .b => .res_0_B | .b0, .c => .res_0_C | .b0, .d => .res_0_D | .b0, .e => .res_0_E | .b0, .h => .res_0_H | .b0, .l => .res_0_L | .b0, .a => .res_0_A
  | .b1, .b => .res_1_B | .b1, .c => .res_1_C | .b1, .d => .res_1_D | .b1, .e => .res_1_E | .b1, .h => .res_1_H | .b1, .l => .res_1_L | .b1, .a => .res_1_A
  | .b2, .b => .res_2_B | .b2, .c => .res_2_C | .b2, .d => .res_2_D | .b2, .e => .res_2_E | .b2, .h => .res_2_H | .b2, .l => .res_2_L | .b2, .a => .res_2_A
  | .b3, .b => .res_3_B | .b3, .c => .res_3_C | .b3, .d => .res_3_D | .b3, .e => .res_3_E | .b3, .h => .res_3_H | .b3, .l => .res_3_L | .b3, .a => .res_3_A
  | .b4, .b => .res_4_B | .b4, .c => .res_4_C | .b4, .d => .res_4_D | .b4, .e => .res_4_E | .b4, .h => .res_4_H | .b4, .l => .res_4_L | .b4, .a => .res_4_A
  | .b5, .b => .res_5_B | .b5, .c => .res_5_C | .b5, .d => .res_5_D | .b5, .e => .res_5_E | .b5, .h => .res_5_H | .b5, .l => .res_5_L | .b5, .a => .res_5_A
  | .b6, .b => .res_6_B | .b6, .c => .res_6_C | .b6, .d => .res_6_D | .b6, .e => .res_6_E | .b6, .h => .res_6_H | .b6, .l => .res_6_L | .b6, .a => .res_6_A
  | .b7, .b => .res_7_B | .b7, .c => .res_7_C | .b7, .d => .res_7_D | .b7, .e => .res_7_E | .b7, .h => .res_7_H | .b7, .l => .res_7_L | .b7, .a => .res_7_A

def resMemInstr : BitIdx → Instr
  | .b0 => .res_0_mHL | .b1 => .res_1_mHL | .b2 => .res_2_mHL | .b3 => .res_3_mHL
  | .b4 => .res_4_mHL | .b5 => .res_5_mHL | .b6 => .res_6_mHL | .b7 => .res_7_mHL

def setRegInstr : BitIdx → Reg8 → Instr
  | .b0, .b => .set_0_B | .b0, .c => .set_0_C | .b0, .d => .set_0_D | .b0, .e => .set_0_E | .b0, .h => .set_0_H | .b0, .l => .set_0_L | .b0, .a => .set_0_A
  | .b1, .b => .set_1_B | .b1, .c => .set_1_C | .b1, .d => .set_1_D | .b1, .e => .set_1_E | .b1, .h => .set_1_H | .b1, .l => .set_1_L | .b1, .a => .set_1_A
  | .b2, .b => .set_2_B | .b2, .c => .set_2_C | .b2, .d => .set_2_D | .b2, .e => .set_2_E | .b2, .h => .set_2_H | .b2, .l => .set_2_L | .b2, .a => .set_2_A
  | .b3, .b => .set_3_B | .b3, .c => .set_3_C | .b3, .d => .set_3_D | .b3, .e => .set_3_E | .b3, .h => .set_3_H | .b3, .l => .set_3_L | .b3, .a => .set_3_A
  | .b4, .b => .set_4_B | .b4, .c => .set_4_C | .b4, .d => .set_4_D | .b4, .e => .set_4_E | .b4, .h => .set_4_H | .b4, .l => .set_4_L | .b4, .a => .set_4_A
  | .b5, .b => .set_5_B | .b5, .c => .set_5_C | .b5, .d => .set_5_D | .b5, .e => .set_5_E | .b5, .h => .set_5_H | .b5, .l => .set_5_L | .b5, .a => .set_5_A
  | .b6, .b => .set_6_B | .b6, .c => .set_6_C | .b6, .d => .set_6_D | .b6, .e => .set_6_E | .b6, .h => .set_6_H | .b6, .l => .set_6_L | .b6, .a => .set_6_A
  | .b7, .b => .set_7_B | .b7, .c => .set_7_C | .b7, .d => .set_7_D | .b7, .e => .set_7_E | .b7, .h => .set_7_H | .b7, .l => .set_7_L | .b7, .a => .set_7_A

def setMemInstr : BitIdx → Instr
  | .b0 => .set_0_mHL | .b1 => .set_1_mHL | .b2 => .set_2_mHL | .b3 => .set_3_mHL
  | .b4 => .set_4_mHL | .b5 => .set_5_mHL | .b6 => .set_6_mHL | .b7 => .set_7_mHL

/-- The row of an unrecognized byte (R98). The decoder calls it on the 55 bytes of R98 alone, the last of which the
final pattern stands for. -/
def unrecognizedInstr (op : Byte) : Instr :=
  match op with
  | 0x01 => .unrecognized_01 | 0x02 => .unrecognized_02 | 0x08 => .unrecognized_08
  | 0x0A => .unrecognized_0A | 0x10 => .unrecognized_10 | 0x11 => .unrecognized_11
  | 0x12 => .unrecognized_12 | 0x18 => .unrecognized_18 | 0x1A => .unrecognized_1A
  | 0x20 => .unrecognized_20 | 0x21 => .unrecognized_21 | 0x22 => .unrecognized_22
  | 0x27 => .unrecognized_27 | 0x28 => .unrecognized_28 | 0x2A => .unrecognized_2A
  | 0x2F => .unrecognized_2F | 0x30 => .unrecognized_30 | 0x31 => .unrecognized_31
  | 0x32 => .unrecognized_32 | 0x37 => .unrecognized_37 | 0x38 => .unrecognized_38
  | 0x3A => .unrecognized_3A | 0x3F => .unrecognized_3F | 0xC7 => .unrecognized_C7
  | 0xCF => .unrecognized_CF | 0xD3 => .unrecognized_D3 | 0xD7 => .unrecognized_D7
  | 0xD9 => .unrecognized_D9 | 0xDB => .unrecognized_DB | 0xDD => .unrecognized_DD
  | 0xDF => .unrecognized_DF | 0xE0 => .unrecognized_E0 | 0xE2 => .unrecognized_E2
  | 0xE3 => .unrecognized_E3 | 0xE4 => .unrecognized_E4 | 0xE7 => .unrecognized_E7
  | 0xE8 => .unrecognized_E8 | 0xE9 => .unrecognized_E9 | 0xEA => .unrecognized_EA
  | 0xEB => .unrecognized_EB | 0xEC => .unrecognized_EC | 0xED => .unrecognized_ED
  | 0xEF => .unrecognized_EF | 0xF0 => .unrecognized_F0 | 0xF2 => .unrecognized_F2
  | 0xF3 => .unrecognized_F3 | 0xF4 => .unrecognized_F4 | 0xF7 => .unrecognized_F7
  | 0xF8 => .unrecognized_F8 | 0xF9 => .unrecognized_F9 | 0xFA => .unrecognized_FA
  | 0xFB => .unrecognized_FB | 0xFC => .unrecognized_FC | 0xFD => .unrecognized_FD
  | _ => .unrecognized_FF

/-- The table row of a form. -/
def Form.instr : Form → Instr
  | .nop => .nop
  | .halt => .halt
  | .rotA k => rotAInstr k
  | .aluReg o r => aluRegInstr o r
  | .aluMem o => aluMemInstr o
  | .aluImm o => aluImmInstr o
  | .addHl p => addHlInstr p
  | .incReg r => incRegInstr r
  | .incMem => .inc_mHL
  | .decReg r => decRegInstr r
  | .decMem => .dec_mHL
  | .inc16 p => inc16Instr p
  | .dec16 p => dec16Instr p
  | .push p => pushInstr p
  | .pop p => popInstr p
  | .jp => .jp_nn
  | .jpCc cc => jpCcInstr cc
  | .call => .call_nn
  | .callCc cc => callCcInstr cc
  | .ret => .ret
  | .retCc cc => retCcInstr cc
  | .ldReg dst r => ldRegInstr dst r
  | .ldImm dst => ldImmInstr dst
  | .ldMem dst => ldMemInstr dst
  | .stReg r => stRegInstr r
  | .stImm => .ld_mHL_n
  | .shiftReg k r => shiftRegInstr k r
  | .shiftMem k => shiftMemInstr k
  | .bitReg b r => bitRegInstr b r
  | .bitMem b => bitMemInstr b
  | .resReg b r => resRegInstr b r
  | .resMem b => resMemInstr b
  | .setReg b r => setRegInstr b r
  | .setMem b => setMemInstr b
  | .prefixByte => .prefix_CB
  | .unrecognized op => unrecognizedInstr op

/-- The form of a table row: its family and operands. -/
def Instr.form : Instr → Form
  | .nop => .nop
  | .unrecognized_01 => .unrecognized 0x01
  | .unrecognized_02 => .unrecognized 0x02
  | .inc_BC => .inc16 .bc
  | .inc_B => .incReg .b
  | .dec_B => .decReg .b
  | .ld_B_n => .ldImm .b
  | .rlca => .rotA .rlca
  | .unrecognized_08 => .unrecognized 0x08
  | .add_HL_BC => .addHl .bc
  | .unrecognized_0A => .unrecognized 0x0A
  | .dec_BC => .dec16 .bc
  | .inc_C => .incReg .c
  | .dec_C => .decReg .c
  | .ld_C_n => .ldImm .c
  | .rrca => .rotA .rrca
  | .unrecognized_10 => .unrecognized 0x10
  | .unrecognized_11 => .unrecognized 0x11
  | .unrecognized_12 => .unrecognized 0x12
  | .inc_DE => .inc16 .de
  | .inc_D => .incReg .d
  | .dec_D => .decReg .d
  | .ld_D_n => .ldImm .d
  | .rla => .rotA .rla
  | .unrecognized_18 => .unrecognized 0x18
  | .add_HL_DE => .addHl .de
  | .unrecognized_1A => .unrecognized 0x1A
  | .dec_DE => .dec16 .de
  | .inc_E => .incReg .e
  | .dec_E => .decReg .e
  | .ld_E_n => .ldImm .e
  | .rra => .rotA .rra
  | .unrecognized_20 => .unrecognized 0x20
  | .unrecognized_21 => .unrecognized 0x21
  | .unrecognized_22 => .unrecognized 0x22
  | .inc_HL => .inc16 .hl
  | .inc_H => .incReg .h
  | .dec_H => .decReg .h
  | .ld_H_n => .ldImm .h
  | .unrecognized_27 => .unrecognized 0x27
  | .unrecognized_28 => .unrecognized 0x28
  | .add_HL_HL => .addHl .hl
  | .unrecognized_2A => .unrecognized 0x2A
  | .dec_HL => .dec16 .hl
  | .inc_L => .incReg .l
  | .dec_L => .decReg .l
  | .ld_L_n => .ldImm .l
  | .unrecognized_2F => .unrecognized 0x2F
  | .unrecognized_30 => .unrecognized 0x30
  | .unrecognized_31 => .unrecognized 0x31
  | .unrecognized_32 => .unrecognized 0x32
  | .inc_SP => .inc16 .sp
  | .inc_mHL => .incMem
  | .dec_mHL => .decMem
  | .ld_mHL_n => .stImm
  | .unrecognized_37 => .unrecognized 0x37
  | .unrecognized_38 => .unrecognized 0x38
  | .add_HL_SP => .addHl .sp
  | .unrecognized_3A => .unrecognized 0x3A
  | .dec_SP => .dec16 .sp
  | .inc_A => .incReg .a
  | .dec_A => .decReg .a
  | .ld_A_n => .ldImm .a
  | .unrecognized_3F => .unrecognized 0x3F
  | .ld_B_B => .ldReg .b .b
  | .ld_B_C => .ldReg .b .c
  | .ld_B_D => .ldReg .b .d
  | .ld_B_E => .ldReg .b .e
  | .ld_B_H => .ldReg .b .h
  | .ld_B_L => .ldReg .b .l
  | .ld_B_mHL => .ldMem .b
  | .ld_B_A => .ldReg .b .a
  | .ld_C_B => .ldReg .c .b
  | .ld_C_C => .ldReg .c .c
  | .ld_C_D => .ldReg .c .d
  | .ld_C_E => .ldReg .c .e
  | .ld_C_H => .ldReg .c .h
  | .ld_C_L => .ldReg .c .l
  | .ld_C_mHL => .ldMem .c
  | .ld_C_A => .ldReg .c .a
  | .ld_D_B => .ldReg .d .b
  | .ld_D_C => .ldReg .d .c
  | .ld_D_D => .ldReg .d .d
  | .ld_D_E => .ldReg .d .e
  | .ld_D_H => .ldReg .d .h
  | .ld_D_L => .ldReg .d .l
  | .ld_D_mHL => .ldMem .d
  | .ld_D_A => .ldReg .d .a
  | .ld_E_B => .ldReg .e .b
  | .ld_E_C => .ldReg .e .c
  | .ld_E_D => .ldReg .e .d
  | .ld_E_E => .ldReg .e .e
  | .ld_E_H => .ldReg .e .h
  | .ld_E_L => .ldReg .e .l
  | .ld_E_mHL => .ldMem .e
  | .ld_E_A => .ldReg .e .a
  | .ld_H_B => .ldReg .h .b
  | .ld_H_C => .ldReg .h .c
  | .ld_H_D => .ldReg .h .d
  | .ld_H_E => .ldReg .h .e
  | .ld_H_H => .ldReg .h .h
  | .ld_H_L => .ldReg .h .l
  | .ld_H_mHL => .ldMem .h
  | .ld_H_A => .ldReg .h .a
  | .ld_L_B => .ldReg .l .b
  | .ld_L_C => .ldReg .l .c
  | .ld_L_D => .ldReg .l .d
  | .ld_L_E => .ldReg .l .e
  | .ld_L_H => .ldReg .l .h
  | .ld_L_L => .ldReg .l .l
  | .ld_L_mHL => .ldMem .l
  | .ld_L_A => .ldReg .l .a
  | .ld_mHL_B => .stReg .b
  | .ld_mHL_C => .stReg .c
  | .ld_mHL_D => .stReg .d
  | .ld_mHL_E => .stReg .e
  | .ld_mHL_H => .stReg .h
  | .ld_mHL_L => .stReg .l
  | .halt => .halt
  | .ld_mHL_A => .stReg .a
  | .ld_A_B => .ldReg .a .b
  | .ld_A_C => .ldReg .a .c
  | .ld_A_D => .ldReg .a .d
  | .ld_A_E => .ldReg .a .e
  | .ld_A_H => .ldReg .a .h
  | .ld_A_L => .ldReg .a .l
  | .ld_A_mHL => .ldMem .a
  | .ld_A_A => .ldReg .a .a
  | .add_A_B => .aluReg .add .b
  | .add_A_C => .aluReg .add .c
  | .add_A_D => .aluReg .add .d
  | .add_A_E => .aluReg .add .e
  | .add_A_H => .aluReg .add .h
  | .add_A_L => .aluReg .add .l
  | .add_A_mHL => .aluMem .add
  | .add_A_A => .aluReg .add .a
  | .adc_A_B => .aluReg .adc .b
  | .adc_A_C => .aluReg .adc .c
  | .adc_A_D => .aluReg .adc .d
  | .adc_A_E => .aluReg .adc .e
  | .adc_A_H => .aluReg .adc .h
  | .adc_A_L => .aluReg .adc .l
  | .adc_A_mHL => .aluMem .adc
  | .adc_A_A => .aluReg .adc .a
  | .sub_B => .aluReg .sub .b
  | .sub_C => .aluReg .sub .c
  | .sub_D => .aluReg .sub .d
  | .sub_E => .aluReg .sub .e
  | .sub_H => .aluReg .sub .h
  | .sub_L => .aluReg .sub .l
  | .sub_mHL => .aluMem .sub
  | .sub_A => .aluReg .sub .a
  | .sbc_A_B => .aluReg .sbc .b
  | .sbc_A_C => .aluReg .sbc .c
  | .sbc_A_D => .aluReg .sbc .d
  | .sbc_A_E => .aluReg .sbc .e
  | .sbc_A_H => .aluReg .sbc .h
  | .sbc_A_L => .aluReg .sbc .l
  | .sbc_A_mHL => .aluMem .sbc
  | .sbc_A_A => .aluReg .sbc .a
  | .and_B => .aluReg .and .b
  | .and_C => .aluReg .and .c
  | .and_D => .aluReg .and .d
  | .and_E => .aluReg .and .e
  | .and_H => .aluReg .and .h
  | .and_L => .aluReg .and .l
  | .and_mHL => .aluMem .and
  | .and_A => .aluReg .and .a
  | .xor_B => .aluReg .xor .b
  | .xor_C => .aluReg .xor .c
  | .xor_D => .aluReg .xor .d
  | .xor_E => .aluReg .xor .e
  | .xor_H => .aluReg .xor .h
  | .xor_L => .aluReg .xor .l
  | .xor_mHL => .aluMem .xor
  | .xor_A => .aluReg .xor .a
  | .or_B => .aluReg .or .b
  | .or_C => .aluReg .or .c
  | .or_D => .aluReg .or .d
  | .or_E => .aluReg .or .e
  | .or_H => .aluReg .or .h
  | .or_L => .aluReg .or .l
  | .or_mHL => .aluMem .or
  | .or_A => .aluReg .or .a
  | .cp_B => .aluReg .cp .b
  | .cp_C => .aluReg .cp .c
  | .cp_D => .aluReg .cp .d
  | .cp_E => .aluReg .cp .e
  | .cp_H => .aluReg .cp .h
  | .cp_L => .aluReg .cp .l
  | .cp_mHL => .aluMem .cp
  | .cp_A => .aluReg .cp .a
  | .ret_NZ => .retCc .nz
  | .pop_BC => .pop .bc
  | .jp_NZ_nn => .jpCc .nz
  | .jp_nn => .jp
  | .call_NZ_nn => .callCc .nz
  | .push_BC => .push .bc
  | .add_A_n => .aluImm .add
  | .unrecognized_C7 => .unrecognized 0xC7
  | .ret_Z => .retCc .z
  | .ret => .ret
  | .jp_Z_nn => .jpCc .z
  | .prefix_CB => .prefixByte
  | .call_Z_nn => .callCc .z
  | .call_nn => .call
  | .adc_A_n => .aluImm .adc
  | .unrecognized_CF => .unrecognized 0xCF
  | .ret_NC => .retCc .nc
  | .pop_DE => .pop .de
  | .jp_NC_nn => .jpCc .nc
  | .unrecognized_D3 => .unrecognized 0xD3
  | .call_NC_nn => .callCc .nc
  | .push_DE => .push .de
  | .sub_n => .aluImm .sub
  | .unrecognized_D7 => .unrecognized 0xD7
  | .ret_C => .retCc .c
  | .unrecognized_D9 => .unrecognized 0xD9
  | .jp_C_nn => .jpCc .c
  | .unrecognized_DB => .unrecognized 0xDB
  | .call_C_nn => .callCc .c
  | .unrecognized_DD => .unrecognized 0xDD
  | .sbc_A_n => .aluImm .sbc
  | .unrecognized_DF => .unrecognized 0xDF
  | .unrecognized_E0 => .unrecognized 0xE0
  | .pop_HL => .pop .hl
  | .unrecognized_E2 => .unrecognized 0xE2
  | .unrecognized_E3 => .unrecognized 0xE3
  | .unrecognized_E4 => .unrecognized 0xE4
  | .push_HL => .push .hl
  | .and_n => .aluImm .and
  | .unrecognized_E7 => .unrecognized 0xE7
  | .unrecognized_E8 => .unrecognized 0xE8
  | .unrecognized_E9 => .unrecognized 0xE9
  | .unrecognized_EA => .unrecognized 0xEA
  | .unrecognized_EB => .unrecognized 0xEB
  | .unrecognized_EC => .unrecognized 0xEC
  | .unrecognized_ED => .unrecognized 0xED
  | .xor_n => .aluImm .xor
  | .unrecognized_EF => .unrecognized 0xEF
  | .unrecognized_F0 => .unrecognized 0xF0
  | .pop_AF => .pop .af
  | .unrecognized_F2 => .unrecognized 0xF2
  | .unrecognized_F3 => .unrecognized 0xF3
  | .unrecognized_F4 => .unrecognized 0xF4
  | .push_AF => .push .af
  | .or_n => .aluImm .or
  | .unrecognized_F7 => .unrecognized 0xF7
  | .unrecognized_F8 => .unrecognized 0xF8
  | .unrecognized_F9 => .unrecognized 0xF9
  | .unrecognized_FA => .unrecognized 0xFA
  | .unrecognized_FB => .unrecognized 0xFB
  | .unrecognized_FC => .unrecognized 0xFC
  | .unrecognized_FD => .unrecognized 0xFD
  | .cp_n => .aluImm .cp
  | .unrecognized_FF => .unrecognized 0xFF
  | .rlc_B => .shiftReg .rlc .b
  | .rlc_C => .shiftReg .rlc .c
  | .rlc_D => .shiftReg .rlc .d
  | .rlc_E => .shiftReg .rlc .e
  | .rlc_H => .shiftReg .rlc .h
  | .rlc_L => .shiftReg .rlc .l
  | .rlc_mHL => .shiftMem .rlc
  | .rlc_A => .shiftReg .rlc .a
  | .rrc_B => .shiftReg .rrc .b
  | .rrc_C => .shiftReg .rrc .c
  | .rrc_D => .shiftReg .rrc .d
  | .rrc_E => .shiftReg .rrc .e
  | .rrc_H => .shiftReg .rrc .h
  | .rrc_L => .shiftReg .rrc .l
  | .rrc_mHL => .shiftMem .rrc
  | .rrc_A => .shiftReg .rrc .a
  | .rl_B => .shiftReg .rl .b
  | .rl_C => .shiftReg .rl .c
  | .rl_D => .shiftReg .rl .d
  | .rl_E => .shiftReg .rl .e
  | .rl_H => .shiftReg .rl .h
  | .rl_L => .shiftReg .rl .l
  | .rl_mHL => .shiftMem .rl
  | .rl_A => .shiftReg .rl .a
  | .rr_B => .shiftReg .rr .b
  | .rr_C => .shiftReg .rr .c
  | .rr_D => .shiftReg .rr .d
  | .rr_E => .shiftReg .rr .e
  | .rr_H => .shiftReg .rr .h
  | .rr_L => .shiftReg .rr .l
  | .rr_mHL => .shiftMem .rr
  | .rr_A => .shiftReg .rr .a
  | .sla_B => .shiftReg .sla .b
  | .sla_C => .shiftReg .sla .c
  | .sla_D => .shiftReg .sla .d
  | .sla_E => .shiftReg .sla .e
  | .sla_H => .shiftReg .sla .h
  | .sla_L => .shiftReg .sla .l
  | .sla_mHL => .shiftMem .sla
  | .sla_A => .shiftReg .sla .a
  | .sra_B => .shiftReg .sra .b
  | .sra_C => .shiftReg .sra .c
  | .sra_D => .shiftReg .sra .d
  | .sra_E => .shiftReg .sra .e
  | .sra_H => .shiftReg .sra .h
  | .sra_L => .shiftReg .sra .l
  | .sra_mHL => .shiftMem .sra
  | .sra_A => .shiftReg .sra .a
  | .swap_B => .shiftReg .swap .b
  | .swap_C => .shiftReg .swap .c
  | .swap_D => .shiftReg .swap .d
  | .swap_E => .shiftReg .swap .e
  | .swap_H => .shiftReg .swap .h
  | .swap_L => .shiftReg .swap .l
  | .swap_mHL => .shiftMem .swap
  | .swap_A => .shiftReg .swap .a
  | .srl_B => .shiftReg .srl .b
  | .srl_C => .shiftReg .srl .c
  | .srl_D => .shiftReg .srl .d
  | .srl_E => .shiftReg .srl .e
  | .srl_H => .shiftReg .srl .h
  | .srl_L => .shiftReg .srl .l
  | .srl_mHL => .shiftMem .srl
  | .srl_A => .shiftReg .srl .a
  | .bit_0_B => .bitReg .b0 .b
  | .bit_0_C => .bitReg .b0 .c
  | .bit_0_D => .bitReg .b0 .d
  | .bit_0_E => .bitReg .b0 .e
  | .bit_0_H => .bitReg .b0 .h
  | .bit_0_L => .bitReg .b0 .l
  | .bit_0_mHL => .bitMem .b0
  | .bit_0_A => .bitReg .b0 .a
  | .bit_1_B => .bitReg .b1 .b
  | .bit_1_C => .bitReg .b1 .c
  | .bit_1_D => .bitReg .b1 .d
  | .bit_1_E => .bitReg .b1 .e
  | .bit_1_H => .bitReg .b1 .h
  | .bit_1_L => .bitReg .b1 .l
  | .bit_1_mHL => .bitMem .b1
  | .bit_1_A => .bitReg .b1 .a
  | .bit_2_B => .bitReg .b2 .b
  | .bit_2_C => .bitReg .b2 .c
  | .bit_2_D => .bitReg .b2 .d
  | .bit_2_E => .bitReg .b2 .e
  | .bit_2_H => .bitReg .b2 .h
  | .bit_2_L => .bitReg .b2 .l
  | .bit_2_mHL => .bitMem .b2
  | .bit_2_A => .bitReg .b2 .a
  | .bit_3_B => .bitReg .b3 .b
  | .bit_3_C => .bitReg .b3 .c
  | .bit_3_D => .bitReg .b3 .d
  | .bit_3_E => .bitReg .b3 .e
  | .bit_3_H => .bitReg .b3 .h
  | .bit_3_L => .bitReg .b3 .l
  | .bit_3_mHL => .bitMem .b3
  | .bit_3_A => .bitReg .b3 .a
  | .bit_4_B => .bitReg .b4 .b
  | .bit_4_C => .bitReg .b4 .c
  | .bit_4_D => .bitReg .b4 .d
  | .bit_4_E => .bitReg .b4 .e
  | .bit_4_H => .bitReg .b4 .h
  | .bit_4_L => .bitReg .b4 .l
  | .bit_4_mHL => .bitMem .b4
  | .bit_4_A => .bitReg .b4 .a
  | .bit_5_B => .bitReg .b5 .b
  | .bit_5_C => .bitReg .b5 .c
  | .bit_5_D => .bitReg .b5 .d
  | .bit_5_E => .bitReg .b5 .e
  | .bit_5_H => .bitReg .b5 .h
  | .bit_5_L => .bitReg .b5 .l
  | .bit_5_mHL => .bitMem .b5
  | .bit_5_A => .bitReg .b5 .a
  | .bit_6_B => .bitReg .b6 .b
  | .bit_6_C => .bitReg .b6 .c
  | .bit_6_D => .bitReg .b6 .d
  | .bit_6_E => .bitReg .b6 .e
  | .bit_6_H => .bitReg .b6 .h
  | .bit_6_L => .bitReg .b6 .l
  | .bit_6_mHL => .bitMem .b6
  | .bit_6_A => .bitReg .b6 .a
  | .bit_7_B => .bitReg .b7 .b
  | .bit_7_C => .bitReg .b7 .c
  | .bit_7_D => .bitReg .b7 .d
  | .bit_7_E => .bitReg .b7 .e
  | .bit_7_H => .bitReg .b7 .h
  | .bit_7_L => .bitReg .b7 .l
  | .bit_7_mHL => .bitMem .b7
  | .bit_7_A => .bitReg .b7 .a
  | .res_0_B => .resReg .b0 .b
  | .res_0_C => .resReg .b0 .c
  | .res_0_D => .resReg .b0 .d
  | .res_0_E => .resReg .b0 .e
  | .res_0_H => .resReg .b0 .h
  | .res_0_L => .resReg .b0 .l
  | .res_0_mHL => .resMem .b0
  | .res_0_A => .resReg .b0 .a
  | .res_1_B => .resReg .b1 .b
  | .res_1_C => .resReg .b1 .c
  | .res_1_D => .resReg .b1 .d
  | .res_1_E => .resReg .b1 .e
  | .res_1_H => .resReg .b1 .h
  | .res_1_L => .resReg .b1 .l
  | .res_1_mHL => .resMem .b1
  | .res_1_A => .resReg .b1 .a
  | .res_2_B => .resReg .b2 .b
  | .res_2_C => .resReg .b2 .c
  | .res_2_D => .resReg .b2 .d
  | .res_2_E => .resReg .b2 .e
  | .res_2_H => .resReg .b2 .h
  | .res_2_L => .resReg .b2 .l
  | .res_2_mHL => .resMem .b2
  | .res_2_A => .resReg .b2 .a
  | .res_3_B => .resReg .b3 .b
  | .res_3_C => .resReg .b3 .c
  | .res_3_D => .resReg .b3 .d
  | .res_3_E => .resReg .b3 .e
  | .res_3_H => .resReg .b3 .h
  | .res_3_L => .resReg .b3 .l
  | .res_3_mHL => .resMem .b3
  | .res_3_A => .resReg .b3 .a
  | .res_4_B => .resReg .b4 .b
  | .res_4_C => .resReg .b4 .c
  | .res_4_D => .resReg .b4 .d
  | .res_4_E => .resReg .b4 .e
  | .res_4_H => .resReg .b4 .h
  | .res_4_L => .resReg .b4 .l
  | .res_4_mHL => .resMem .b4
  | .res_4_A => .resReg .b4 .a
  | .res_5_B => .resReg .b5 .b
  | .res_5_C => .resReg .b5 .c
  | .res_5_D => .resReg .b5 .d
  | .res_5_E => .resReg .b5 .e
  | .res_5_H => .resReg .b5 .h
  | .res_5_L => .resReg .b5 .l
  | .res_5_mHL => .resMem .b5
  | .res_5_A => .resReg .b5 .a
  | .res_6_B => .resReg .b6 .b
  | .res_6_C => .resReg .b6 .c
  | .res_6_D => .resReg .b6 .d
  | .res_6_E => .resReg .b6 .e
  | .res_6_H => .resReg .b6 .h
  | .res_6_L => .resReg .b6 .l
  | .res_6_mHL => .resMem .b6
  | .res_6_A => .resReg .b6 .a
  | .res_7_B => .resReg .b7 .b
  | .res_7_C => .resReg .b7 .c
  | .res_7_D => .resReg .b7 .d
  | .res_7_E => .resReg .b7 .e
  | .res_7_H => .resReg .b7 .h
  | .res_7_L => .resReg .b7 .l
  | .res_7_mHL => .resMem .b7
  | .res_7_A => .resReg .b7 .a
  | .set_0_B => .setReg .b0 .b
  | .set_0_C => .setReg .b0 .c
  | .set_0_D => .setReg .b0 .d
  | .set_0_E => .setReg .b0 .e
  | .set_0_H => .setReg .b0 .h
  | .set_0_L => .setReg .b0 .l
  | .set_0_mHL => .setMem .b0
  | .set_0_A => .setReg .b0 .a
  | .set_1_B => .setReg .b1 .b
  | .set_1_C => .setReg .b1 .c
  | .set_1_D => .setReg .b1 .d
  | .set_1_E => .setReg .b1 .e
  | .set_1_H => .setReg .b1 .h
  | .set_1_L => .setReg .b1 .l
  | .set_1_mHL => .setMem .b1
  | .set_1_A => .setReg .b1 .a
  | .set_2_B => .setReg .b2 .b
  | .set_2_C => .setReg .b2 .c
  | .set_2_D => .setReg .b2 .d
  | .set_2_E => .setReg .b2 .e
  | .set_2_H => .setReg .b2 .h
  | .set_2_L => .setReg .b2 .l
  | .set_2_mHL => .setMem .b2
  | .set_2_A => .setReg .b2 .a
  | .set_3_B => .setReg .b3 .b
  | .set_3_C => .setReg .b3 .c
  | .set_3_D => .setReg .b3 .d
  | .set_3_E => .setReg .b3 .e
  | .set_3_H => .setReg .b3 .h
  | .set_3_L => .setReg .b3 .l
  | .set_3_mHL => .setMem .b3
  | .set_3_A => .setReg .b3 .a
  | .set_4_B => .setReg .b4 .b
  | .set_4_C => .setReg .b4 .c
  | .set_4_D => .setReg .b4 .d
  | .set_4_E => .setReg .b4 .e
  | .set_4_H => .setReg .b4 .h
  | .set_4_L => .setReg .b4 .l
  | .set_4_mHL => .setMem .b4
  | .set_4_A => .setReg .b4 .a
  | .set_5_B => .setReg .b5 .b
  | .set_5_C => .setReg .b5 .c
  | .set_5_D => .setReg .b5 .d
  | .set_5_E => .setReg .b5 .e
  | .set_5_H => .setReg .b5 .h
  | .set_5_L => .setReg .b5 .l
  | .set_5_mHL => .setMem .b5
  | .set_5_A => .setReg .b5 .a
  | .set_6_B => .setReg .b6 .b
  | .set_6_C => .setReg .b6 .c
  | .set_6_D => .setReg .b6 .d
  | .set_6_E => .setReg .b6 .e
  | .set_6_H => .setReg .b6 .h
  | .set_6_L => .setReg .b6 .l
  | .set_6_mHL => .setMem .b6
  | .set_6_A => .setReg .b6 .a
  | .set_7_B => .setReg .b7 .b
  | .set_7_C => .setReg .b7 .c
  | .set_7_D => .setReg .b7 .d
  | .set_7_E => .setReg .b7 .e
  | .set_7_H => .setReg .b7 .h
  | .set_7_L => .setReg .b7 .l
  | .set_7_mHL => .setMem .b7
  | .set_7_A => .setReg .b7 .a

/-! ### Selectors (R83 to R86) -/

/-- The register of a 3-bit selector; `none` is slot 6, the memory byte at HL (R83). -/
def regOf : Nat → Option Reg8
  | 0 => some .b | 1 => some .c | 2 => some .d | 3 => some .e
  | 4 => some .h | 5 => some .l | 6 => none | _ => some .a

/-- Table A of R84. -/
def pairSelOf : Nat → PairSel
  | 0 => .bc | 1 => .de | 2 => .hl | _ => .sp

/-- Table B of R84. -/
def pairViewOf : Nat → PairView
  | 0 => .bc | 1 => .de | 2 => .hl | _ => .af

/-- R85. -/
def aluOpOf : Nat → AluOp
  | 0 => .add | 1 => .adc | 2 => .sub | 3 => .sbc | 4 => .and | 5 => .xor | 6 => .or | _ => .cp

/-- R86. -/
def condOf : Nat → Cond
  | 0 => .nz | 1 => .z | 2 => .nc | _ => .c

/-- The `x = 0` rows of R95. -/
def shiftKindOf : Nat → ShiftKind
  | 0 => .rlc | 1 => .rrc | 2 => .rl | 3 => .rr | 4 => .sla | 5 => .sra | 6 => .swap | _ => .srl

/-- The bit index `b` of R95. -/
def bitIdxOf : Nat → BitIdx
  | 0 => .b0 | 1 => .b1 | 2 => .b2 | 3 => .b3 | 4 => .b4 | 5 => .b5 | 6 => .b6 | _ => .b7

/-- The selector value of a register (R83). -/
def Reg8.sel : Reg8 → Nat
  | .b => 0 | .c => 1 | .d => 2 | .e => 3 | .h => 4 | .l => 5 | .a => 7

/-- The selector value of a pair of table A (R84). -/
def PairSel.sel : PairSel → Nat
  | .bc => 0 | .de => 1 | .hl => 2 | .sp => 3

/-- The selector value of a pair of table B (R84). -/
def PairView.sel : PairView → Nat
  | .bc => 0 | .de => 1 | .hl => 2 | .af => 3

/-- The selector value of an ALU operation (R85). -/
def AluOp.sel : AluOp → Nat
  | .add => 0 | .adc => 1 | .sub => 2 | .sbc => 3 | .and => 4 | .xor => 5 | .or => 6 | .cp => 7

/-- The selector value of a condition (R86). -/
def Cond.sel : Cond → Nat
  | .nz => 0 | .z => 1 | .nc => 2 | .c => 3

/-- The field `y` of a shift kind (R95). -/
def ShiftKind.sel : ShiftKind → Nat
  | .rlc => 0 | .rrc => 1 | .rl => 2 | .rr => 3 | .sla => 4 | .sra => 5 | .swap => 6 | .srl => 7

/-- The number a bit index names (R95). -/
def BitIdx.num : BitIdx → Nat
  | .b0 => 0 | .b1 => 1 | .b2 => 2 | .b3 => 3 | .b4 => 4 | .b5 => 5 | .b6 => 6 | .b7 => 7

/-! ### The decoder -/

/-- Main space, `x = 0` (R82). -/
def formX0 (op : Byte) (y z : Nat) : Form :=
  match z with
  | 0 => if y = 0 then .nop else .unrecognized op
  | 1 => if y % 2 = 1 then .addHl (pairSelOf (y / 2)) else .unrecognized op
  | 2 => .unrecognized op
  | 3 => if y % 2 = 0 then .inc16 (pairSelOf (y / 2)) else .dec16 (pairSelOf (y / 2))
  | 4 => match regOf y with | some r => .incReg r | none => .incMem
  | 5 => match regOf y with | some r => .decReg r | none => .decMem
  | 6 => match regOf y with | some r => .ldImm r | none => .stImm
  | _ =>
    match y with
    | 0 => .rotA .rlca | 1 => .rotA .rrca | 2 => .rotA .rla | 3 => .rotA .rra
    | _ => .unrecognized op

/-- Main space, `x = 1`: the load grid, with HALT in the slot of `LD (HL),(HL)` (R82, R92). -/
def formX1 (y z : Nat) : Form :=
  match regOf y, regOf z with
  | some dst, some r => .ldReg dst r
  | some dst, none => .ldMem dst
  | none, some r => .stReg r
  | none, none => .halt

/-- Main space, `x = 2`: the ALU grid (R82, R93). -/
def formX2 (y z : Nat) : Form :=
  match regOf z with
  | some r => .aluReg (aluOpOf y) r
  | none => .aluMem (aluOpOf y)

/-- Main space, `x = 3` (R82, R94). -/
def formX3 (op : Byte) (y z : Nat) : Form :=
  match z with
  | 0 => if y < 4 then .retCc (condOf y) else .unrecognized op
  | 1 => if y % 2 = 0 then .pop (pairViewOf (y / 2)) else if y = 1 then .ret else .unrecognized op
  | 2 => if y < 4 then .jpCc (condOf y) else .unrecognized op
  | 3 => if y = 0 then .jp else if y = 1 then .prefixByte else .unrecognized op
  | 4 => if y < 4 then .callCc (condOf y) else .unrecognized op
  | 5 => if y % 2 = 0 then .push (pairViewOf (y / 2)) else if y = 1 then .call else .unrecognized op
  | 6 => .aluImm (aluOpOf y)
  | _ => .unrecognized op

/-- The main-space group of an opcode byte by its fields x, y, z (R81, R82). -/
def mainForm (op : Byte) : Form :=
  let y := op.toNat / 8 % 8
  let z := op.toNat % 8
  match op.toNat / 64 with
  | 0 => formX0 op y z
  | 1 => formX1 y z
  | 2 => formX2 y z
  | _ => formX3 op y z

/-- The secondary-space group of a byte by its fields x, y, z (R95). -/
def cbForm (op2 : Byte) : Form :=
  let y := op2.toNat / 8 % 8
  match op2.toNat / 64, regOf (op2.toNat % 8) with
  | 0, some r => .shiftReg (shiftKindOf y) r
  | 0, none => .shiftMem (shiftKindOf y)
  | 1, some r => .bitReg (bitIdxOf y) r
  | 1, none => .bitMem (bitIdxOf y)
  | 2, some r => .resReg (bitIdxOf y) r
  | 2, none => .resMem (bitIdxOf y)
  | _, some r => .setReg (bitIdxOf y) r
  | _, none => .setMem (bitIdxOf y)

/-- The table row of a main-space byte. -/
def decodeMain (op : Byte) : Instr := (mainForm op).instr

/-- `DecodeCB` of R97: the table row of a secondary-space byte. -/
def decodeCb (op2 : Byte) : Instr := (cbForm op2).instr

/-- The row is one of the 55 unrecognized bytes of R98. -/
def Instr.isUnrecognized (i : Instr) : Bool :=
  match i.form with
  | .unrecognized _ => true
  | _ => false

/-- `DecodeMain` of R97: the instruction of a main-space byte, or `none` for an unrecognized byte and for the byte 0xCB,
which is no instruction. -/
def decodeMainOption (op : Byte) : Option Instr :=
  match mainForm op with
  | .unrecognized _ => none
  | .prefixByte => none
  | f => some f.instr

/-- Why a list of bytes holds no whole opcode. -/
inductive DecodeError where
  /-- The list is empty. -/
  | noBytes
  /-- The list ends after the byte 0xCB. -/
  | noSecondByte
deriving DecidableEq, Repr

/-- The instruction at the head of a list of bytes, and the bytes after its opcode: its immediate, if it has one, comes
first among them (R89, R100, R101). An unrecognized byte decodes to the row named after it. -/
def decode : List Byte → Except DecodeError (Instr × List Byte)
  | [] => .error .noBytes
  | op :: rest =>
    if op = 0xCB then
      match rest with
      | [] => .error .noSecondByte
      | op2 :: rest => .ok (decodeCb op2, rest)
    else .ok (decodeMain op, rest)

/-- The bytes that UNSPEC_FAMILIES = refuse turns into unrecognized bytes: the 59 of R98. -/
def unspecByte (op : Byte) : Bool :=
  let n := op.toNat
  n = 0x07 || n = 0x0F || n = 0x17 || n = 0x1F || (0x88 ≤ n && n ≤ 0x8F) || n = 0xCE || (0x98 ≤ n && n ≤ 0x9F) ||
  n = 0xDE || (0xA0 ≤ n && n ≤ 0xBF) || n = 0xE6 || n = 0xEE || n = 0xF6 || n = 0xFE || n = 0xCB

/-! ### Formats and the encoder -/

/-- The format of a form (R80). -/
def Form.format : Form → Format
  | .aluImm _ | .ldImm _ | .stImm => .opN
  | .jp | .jpCc _ | .call | .callCc _ => .opNN
  | .shiftReg _ _ | .shiftMem _ | .bitReg _ _ | .bitMem _ | .resReg _ _ | .resMem _ | .setReg _ _ | .setMem _
  | .prefixByte => .cbOp
  | .unrecognized _ => .noInstr
  | .nop | .halt | .rotA _ | .aluReg _ _ | .aluMem _ | .addHl _ | .incReg _ | .incMem | .decReg _ | .decMem
  | .inc16 _ | .dec16 _ | .push _ | .pop _ | .ret | .retCc _ | .ldReg _ _ | .ldMem _ | .stReg _ => .op

/-- The length in bytes of a format; an unrecognized byte has none (R80, R98). -/
def Format.length : Format → Option Nat
  | .op => some 1 | .opN => some 2 | .opNN => some 3 | .cbOp => some 2 | .noInstr => none

/-- The `length` column of spec/opcode_table.json. -/
def Instr.length (i : Instr) : Option Nat := i.form.format.length

/-- The opcode bytes of an instruction: the `match` column of spec/opcode_table.json. An immediate follows them. -/
def encode : Instr → List Byte
  | .nop => [0x00] | .unrecognized_01 => [0x01] | .unrecognized_02 => [0x02] | .inc_BC => [0x03]
  | .inc_B => [0x04] | .dec_B => [0x05] | .ld_B_n => [0x06] | .rlca => [0x07]
  | .unrecognized_08 => [0x08] | .add_HL_BC => [0x09] | .unrecognized_0A => [0x0A] | .dec_BC => [0x0B]
  | .inc_C => [0x0C] | .dec_C => [0x0D] | .ld_C_n => [0x0E] | .rrca => [0x0F]
  | .unrecognized_10 => [0x10] | .unrecognized_11 => [0x11] | .unrecognized_12 => [0x12] | .inc_DE => [0x13]
  | .inc_D => [0x14] | .dec_D => [0x15] | .ld_D_n => [0x16] | .rla => [0x17]
  | .unrecognized_18 => [0x18] | .add_HL_DE => [0x19] | .unrecognized_1A => [0x1A] | .dec_DE => [0x1B]
  | .inc_E => [0x1C] | .dec_E => [0x1D] | .ld_E_n => [0x1E] | .rra => [0x1F]
  | .unrecognized_20 => [0x20] | .unrecognized_21 => [0x21] | .unrecognized_22 => [0x22] | .inc_HL => [0x23]
  | .inc_H => [0x24] | .dec_H => [0x25] | .ld_H_n => [0x26] | .unrecognized_27 => [0x27]
  | .unrecognized_28 => [0x28] | .add_HL_HL => [0x29] | .unrecognized_2A => [0x2A] | .dec_HL => [0x2B]
  | .inc_L => [0x2C] | .dec_L => [0x2D] | .ld_L_n => [0x2E] | .unrecognized_2F => [0x2F]
  | .unrecognized_30 => [0x30] | .unrecognized_31 => [0x31] | .unrecognized_32 => [0x32] | .inc_SP => [0x33]
  | .inc_mHL => [0x34] | .dec_mHL => [0x35] | .ld_mHL_n => [0x36] | .unrecognized_37 => [0x37]
  | .unrecognized_38 => [0x38] | .add_HL_SP => [0x39] | .unrecognized_3A => [0x3A] | .dec_SP => [0x3B]
  | .inc_A => [0x3C] | .dec_A => [0x3D] | .ld_A_n => [0x3E] | .unrecognized_3F => [0x3F]
  | .ld_B_B => [0x40] | .ld_B_C => [0x41] | .ld_B_D => [0x42] | .ld_B_E => [0x43]
  | .ld_B_H => [0x44] | .ld_B_L => [0x45] | .ld_B_mHL => [0x46] | .ld_B_A => [0x47]
  | .ld_C_B => [0x48] | .ld_C_C => [0x49] | .ld_C_D => [0x4A] | .ld_C_E => [0x4B]
  | .ld_C_H => [0x4C] | .ld_C_L => [0x4D] | .ld_C_mHL => [0x4E] | .ld_C_A => [0x4F]
  | .ld_D_B => [0x50] | .ld_D_C => [0x51] | .ld_D_D => [0x52] | .ld_D_E => [0x53]
  | .ld_D_H => [0x54] | .ld_D_L => [0x55] | .ld_D_mHL => [0x56] | .ld_D_A => [0x57]
  | .ld_E_B => [0x58] | .ld_E_C => [0x59] | .ld_E_D => [0x5A] | .ld_E_E => [0x5B]
  | .ld_E_H => [0x5C] | .ld_E_L => [0x5D] | .ld_E_mHL => [0x5E] | .ld_E_A => [0x5F]
  | .ld_H_B => [0x60] | .ld_H_C => [0x61] | .ld_H_D => [0x62] | .ld_H_E => [0x63]
  | .ld_H_H => [0x64] | .ld_H_L => [0x65] | .ld_H_mHL => [0x66] | .ld_H_A => [0x67]
  | .ld_L_B => [0x68] | .ld_L_C => [0x69] | .ld_L_D => [0x6A] | .ld_L_E => [0x6B]
  | .ld_L_H => [0x6C] | .ld_L_L => [0x6D] | .ld_L_mHL => [0x6E] | .ld_L_A => [0x6F]
  | .ld_mHL_B => [0x70] | .ld_mHL_C => [0x71] | .ld_mHL_D => [0x72] | .ld_mHL_E => [0x73]
  | .ld_mHL_H => [0x74] | .ld_mHL_L => [0x75] | .halt => [0x76] | .ld_mHL_A => [0x77]
  | .ld_A_B => [0x78] | .ld_A_C => [0x79] | .ld_A_D => [0x7A] | .ld_A_E => [0x7B]
  | .ld_A_H => [0x7C] | .ld_A_L => [0x7D] | .ld_A_mHL => [0x7E] | .ld_A_A => [0x7F]
  | .add_A_B => [0x80] | .add_A_C => [0x81] | .add_A_D => [0x82] | .add_A_E => [0x83]
  | .add_A_H => [0x84] | .add_A_L => [0x85] | .add_A_mHL => [0x86] | .add_A_A => [0x87]
  | .adc_A_B => [0x88] | .adc_A_C => [0x89] | .adc_A_D => [0x8A] | .adc_A_E => [0x8B]
  | .adc_A_H => [0x8C] | .adc_A_L => [0x8D] | .adc_A_mHL => [0x8E] | .adc_A_A => [0x8F]
  | .sub_B => [0x90] | .sub_C => [0x91] | .sub_D => [0x92] | .sub_E => [0x93]
  | .sub_H => [0x94] | .sub_L => [0x95] | .sub_mHL => [0x96] | .sub_A => [0x97]
  | .sbc_A_B => [0x98] | .sbc_A_C => [0x99] | .sbc_A_D => [0x9A] | .sbc_A_E => [0x9B]
  | .sbc_A_H => [0x9C] | .sbc_A_L => [0x9D] | .sbc_A_mHL => [0x9E] | .sbc_A_A => [0x9F]
  | .and_B => [0xA0] | .and_C => [0xA1] | .and_D => [0xA2] | .and_E => [0xA3]
  | .and_H => [0xA4] | .and_L => [0xA5] | .and_mHL => [0xA6] | .and_A => [0xA7]
  | .xor_B => [0xA8] | .xor_C => [0xA9] | .xor_D => [0xAA] | .xor_E => [0xAB]
  | .xor_H => [0xAC] | .xor_L => [0xAD] | .xor_mHL => [0xAE] | .xor_A => [0xAF]
  | .or_B => [0xB0] | .or_C => [0xB1] | .or_D => [0xB2] | .or_E => [0xB3]
  | .or_H => [0xB4] | .or_L => [0xB5] | .or_mHL => [0xB6] | .or_A => [0xB7]
  | .cp_B => [0xB8] | .cp_C => [0xB9] | .cp_D => [0xBA] | .cp_E => [0xBB]
  | .cp_H => [0xBC] | .cp_L => [0xBD] | .cp_mHL => [0xBE] | .cp_A => [0xBF]
  | .ret_NZ => [0xC0] | .pop_BC => [0xC1] | .jp_NZ_nn => [0xC2] | .jp_nn => [0xC3]
  | .call_NZ_nn => [0xC4] | .push_BC => [0xC5] | .add_A_n => [0xC6] | .unrecognized_C7 => [0xC7]
  | .ret_Z => [0xC8] | .ret => [0xC9] | .jp_Z_nn => [0xCA] | .prefix_CB => [0xCB]
  | .call_Z_nn => [0xCC] | .call_nn => [0xCD] | .adc_A_n => [0xCE] | .unrecognized_CF => [0xCF]
  | .ret_NC => [0xD0] | .pop_DE => [0xD1] | .jp_NC_nn => [0xD2] | .unrecognized_D3 => [0xD3]
  | .call_NC_nn => [0xD4] | .push_DE => [0xD5] | .sub_n => [0xD6] | .unrecognized_D7 => [0xD7]
  | .ret_C => [0xD8] | .unrecognized_D9 => [0xD9] | .jp_C_nn => [0xDA] | .unrecognized_DB => [0xDB]
  | .call_C_nn => [0xDC] | .unrecognized_DD => [0xDD] | .sbc_A_n => [0xDE] | .unrecognized_DF => [0xDF]
  | .unrecognized_E0 => [0xE0] | .pop_HL => [0xE1] | .unrecognized_E2 => [0xE2] | .unrecognized_E3 => [0xE3]
  | .unrecognized_E4 => [0xE4] | .push_HL => [0xE5] | .and_n => [0xE6] | .unrecognized_E7 => [0xE7]
  | .unrecognized_E8 => [0xE8] | .unrecognized_E9 => [0xE9] | .unrecognized_EA => [0xEA] | .unrecognized_EB => [0xEB]
  | .unrecognized_EC => [0xEC] | .unrecognized_ED => [0xED] | .xor_n => [0xEE] | .unrecognized_EF => [0xEF]
  | .unrecognized_F0 => [0xF0] | .pop_AF => [0xF1] | .unrecognized_F2 => [0xF2] | .unrecognized_F3 => [0xF3]
  | .unrecognized_F4 => [0xF4] | .push_AF => [0xF5] | .or_n => [0xF6] | .unrecognized_F7 => [0xF7]
  | .unrecognized_F8 => [0xF8] | .unrecognized_F9 => [0xF9] | .unrecognized_FA => [0xFA] | .unrecognized_FB => [0xFB]
  | .unrecognized_FC => [0xFC] | .unrecognized_FD => [0xFD] | .cp_n => [0xFE] | .unrecognized_FF => [0xFF]
  | .rlc_B => [0xCB, 0x00] | .rlc_C => [0xCB, 0x01] | .rlc_D => [0xCB, 0x02] | .rlc_E => [0xCB, 0x03]
  | .rlc_H => [0xCB, 0x04] | .rlc_L => [0xCB, 0x05] | .rlc_mHL => [0xCB, 0x06] | .rlc_A => [0xCB, 0x07]
  | .rrc_B => [0xCB, 0x08] | .rrc_C => [0xCB, 0x09] | .rrc_D => [0xCB, 0x0A] | .rrc_E => [0xCB, 0x0B]
  | .rrc_H => [0xCB, 0x0C] | .rrc_L => [0xCB, 0x0D] | .rrc_mHL => [0xCB, 0x0E] | .rrc_A => [0xCB, 0x0F]
  | .rl_B => [0xCB, 0x10] | .rl_C => [0xCB, 0x11] | .rl_D => [0xCB, 0x12] | .rl_E => [0xCB, 0x13]
  | .rl_H => [0xCB, 0x14] | .rl_L => [0xCB, 0x15] | .rl_mHL => [0xCB, 0x16] | .rl_A => [0xCB, 0x17]
  | .rr_B => [0xCB, 0x18] | .rr_C => [0xCB, 0x19] | .rr_D => [0xCB, 0x1A] | .rr_E => [0xCB, 0x1B]
  | .rr_H => [0xCB, 0x1C] | .rr_L => [0xCB, 0x1D] | .rr_mHL => [0xCB, 0x1E] | .rr_A => [0xCB, 0x1F]
  | .sla_B => [0xCB, 0x20] | .sla_C => [0xCB, 0x21] | .sla_D => [0xCB, 0x22] | .sla_E => [0xCB, 0x23]
  | .sla_H => [0xCB, 0x24] | .sla_L => [0xCB, 0x25] | .sla_mHL => [0xCB, 0x26] | .sla_A => [0xCB, 0x27]
  | .sra_B => [0xCB, 0x28] | .sra_C => [0xCB, 0x29] | .sra_D => [0xCB, 0x2A] | .sra_E => [0xCB, 0x2B]
  | .sra_H => [0xCB, 0x2C] | .sra_L => [0xCB, 0x2D] | .sra_mHL => [0xCB, 0x2E] | .sra_A => [0xCB, 0x2F]
  | .swap_B => [0xCB, 0x30] | .swap_C => [0xCB, 0x31] | .swap_D => [0xCB, 0x32] | .swap_E => [0xCB, 0x33]
  | .swap_H => [0xCB, 0x34] | .swap_L => [0xCB, 0x35] | .swap_mHL => [0xCB, 0x36] | .swap_A => [0xCB, 0x37]
  | .srl_B => [0xCB, 0x38] | .srl_C => [0xCB, 0x39] | .srl_D => [0xCB, 0x3A] | .srl_E => [0xCB, 0x3B]
  | .srl_H => [0xCB, 0x3C] | .srl_L => [0xCB, 0x3D] | .srl_mHL => [0xCB, 0x3E] | .srl_A => [0xCB, 0x3F]
  | .bit_0_B => [0xCB, 0x40] | .bit_0_C => [0xCB, 0x41] | .bit_0_D => [0xCB, 0x42] | .bit_0_E => [0xCB, 0x43]
  | .bit_0_H => [0xCB, 0x44] | .bit_0_L => [0xCB, 0x45] | .bit_0_mHL => [0xCB, 0x46] | .bit_0_A => [0xCB, 0x47]
  | .bit_1_B => [0xCB, 0x48] | .bit_1_C => [0xCB, 0x49] | .bit_1_D => [0xCB, 0x4A] | .bit_1_E => [0xCB, 0x4B]
  | .bit_1_H => [0xCB, 0x4C] | .bit_1_L => [0xCB, 0x4D] | .bit_1_mHL => [0xCB, 0x4E] | .bit_1_A => [0xCB, 0x4F]
  | .bit_2_B => [0xCB, 0x50] | .bit_2_C => [0xCB, 0x51] | .bit_2_D => [0xCB, 0x52] | .bit_2_E => [0xCB, 0x53]
  | .bit_2_H => [0xCB, 0x54] | .bit_2_L => [0xCB, 0x55] | .bit_2_mHL => [0xCB, 0x56] | .bit_2_A => [0xCB, 0x57]
  | .bit_3_B => [0xCB, 0x58] | .bit_3_C => [0xCB, 0x59] | .bit_3_D => [0xCB, 0x5A] | .bit_3_E => [0xCB, 0x5B]
  | .bit_3_H => [0xCB, 0x5C] | .bit_3_L => [0xCB, 0x5D] | .bit_3_mHL => [0xCB, 0x5E] | .bit_3_A => [0xCB, 0x5F]
  | .bit_4_B => [0xCB, 0x60] | .bit_4_C => [0xCB, 0x61] | .bit_4_D => [0xCB, 0x62] | .bit_4_E => [0xCB, 0x63]
  | .bit_4_H => [0xCB, 0x64] | .bit_4_L => [0xCB, 0x65] | .bit_4_mHL => [0xCB, 0x66] | .bit_4_A => [0xCB, 0x67]
  | .bit_5_B => [0xCB, 0x68] | .bit_5_C => [0xCB, 0x69] | .bit_5_D => [0xCB, 0x6A] | .bit_5_E => [0xCB, 0x6B]
  | .bit_5_H => [0xCB, 0x6C] | .bit_5_L => [0xCB, 0x6D] | .bit_5_mHL => [0xCB, 0x6E] | .bit_5_A => [0xCB, 0x6F]
  | .bit_6_B => [0xCB, 0x70] | .bit_6_C => [0xCB, 0x71] | .bit_6_D => [0xCB, 0x72] | .bit_6_E => [0xCB, 0x73]
  | .bit_6_H => [0xCB, 0x74] | .bit_6_L => [0xCB, 0x75] | .bit_6_mHL => [0xCB, 0x76] | .bit_6_A => [0xCB, 0x77]
  | .bit_7_B => [0xCB, 0x78] | .bit_7_C => [0xCB, 0x79] | .bit_7_D => [0xCB, 0x7A] | .bit_7_E => [0xCB, 0x7B]
  | .bit_7_H => [0xCB, 0x7C] | .bit_7_L => [0xCB, 0x7D] | .bit_7_mHL => [0xCB, 0x7E] | .bit_7_A => [0xCB, 0x7F]
  | .res_0_B => [0xCB, 0x80] | .res_0_C => [0xCB, 0x81] | .res_0_D => [0xCB, 0x82] | .res_0_E => [0xCB, 0x83]
  | .res_0_H => [0xCB, 0x84] | .res_0_L => [0xCB, 0x85] | .res_0_mHL => [0xCB, 0x86] | .res_0_A => [0xCB, 0x87]
  | .res_1_B => [0xCB, 0x88] | .res_1_C => [0xCB, 0x89] | .res_1_D => [0xCB, 0x8A] | .res_1_E => [0xCB, 0x8B]
  | .res_1_H => [0xCB, 0x8C] | .res_1_L => [0xCB, 0x8D] | .res_1_mHL => [0xCB, 0x8E] | .res_1_A => [0xCB, 0x8F]
  | .res_2_B => [0xCB, 0x90] | .res_2_C => [0xCB, 0x91] | .res_2_D => [0xCB, 0x92] | .res_2_E => [0xCB, 0x93]
  | .res_2_H => [0xCB, 0x94] | .res_2_L => [0xCB, 0x95] | .res_2_mHL => [0xCB, 0x96] | .res_2_A => [0xCB, 0x97]
  | .res_3_B => [0xCB, 0x98] | .res_3_C => [0xCB, 0x99] | .res_3_D => [0xCB, 0x9A] | .res_3_E => [0xCB, 0x9B]
  | .res_3_H => [0xCB, 0x9C] | .res_3_L => [0xCB, 0x9D] | .res_3_mHL => [0xCB, 0x9E] | .res_3_A => [0xCB, 0x9F]
  | .res_4_B => [0xCB, 0xA0] | .res_4_C => [0xCB, 0xA1] | .res_4_D => [0xCB, 0xA2] | .res_4_E => [0xCB, 0xA3]
  | .res_4_H => [0xCB, 0xA4] | .res_4_L => [0xCB, 0xA5] | .res_4_mHL => [0xCB, 0xA6] | .res_4_A => [0xCB, 0xA7]
  | .res_5_B => [0xCB, 0xA8] | .res_5_C => [0xCB, 0xA9] | .res_5_D => [0xCB, 0xAA] | .res_5_E => [0xCB, 0xAB]
  | .res_5_H => [0xCB, 0xAC] | .res_5_L => [0xCB, 0xAD] | .res_5_mHL => [0xCB, 0xAE] | .res_5_A => [0xCB, 0xAF]
  | .res_6_B => [0xCB, 0xB0] | .res_6_C => [0xCB, 0xB1] | .res_6_D => [0xCB, 0xB2] | .res_6_E => [0xCB, 0xB3]
  | .res_6_H => [0xCB, 0xB4] | .res_6_L => [0xCB, 0xB5] | .res_6_mHL => [0xCB, 0xB6] | .res_6_A => [0xCB, 0xB7]
  | .res_7_B => [0xCB, 0xB8] | .res_7_C => [0xCB, 0xB9] | .res_7_D => [0xCB, 0xBA] | .res_7_E => [0xCB, 0xBB]
  | .res_7_H => [0xCB, 0xBC] | .res_7_L => [0xCB, 0xBD] | .res_7_mHL => [0xCB, 0xBE] | .res_7_A => [0xCB, 0xBF]
  | .set_0_B => [0xCB, 0xC0] | .set_0_C => [0xCB, 0xC1] | .set_0_D => [0xCB, 0xC2] | .set_0_E => [0xCB, 0xC3]
  | .set_0_H => [0xCB, 0xC4] | .set_0_L => [0xCB, 0xC5] | .set_0_mHL => [0xCB, 0xC6] | .set_0_A => [0xCB, 0xC7]
  | .set_1_B => [0xCB, 0xC8] | .set_1_C => [0xCB, 0xC9] | .set_1_D => [0xCB, 0xCA] | .set_1_E => [0xCB, 0xCB]
  | .set_1_H => [0xCB, 0xCC] | .set_1_L => [0xCB, 0xCD] | .set_1_mHL => [0xCB, 0xCE] | .set_1_A => [0xCB, 0xCF]
  | .set_2_B => [0xCB, 0xD0] | .set_2_C => [0xCB, 0xD1] | .set_2_D => [0xCB, 0xD2] | .set_2_E => [0xCB, 0xD3]
  | .set_2_H => [0xCB, 0xD4] | .set_2_L => [0xCB, 0xD5] | .set_2_mHL => [0xCB, 0xD6] | .set_2_A => [0xCB, 0xD7]
  | .set_3_B => [0xCB, 0xD8] | .set_3_C => [0xCB, 0xD9] | .set_3_D => [0xCB, 0xDA] | .set_3_E => [0xCB, 0xDB]
  | .set_3_H => [0xCB, 0xDC] | .set_3_L => [0xCB, 0xDD] | .set_3_mHL => [0xCB, 0xDE] | .set_3_A => [0xCB, 0xDF]
  | .set_4_B => [0xCB, 0xE0] | .set_4_C => [0xCB, 0xE1] | .set_4_D => [0xCB, 0xE2] | .set_4_E => [0xCB, 0xE3]
  | .set_4_H => [0xCB, 0xE4] | .set_4_L => [0xCB, 0xE5] | .set_4_mHL => [0xCB, 0xE6] | .set_4_A => [0xCB, 0xE7]
  | .set_5_B => [0xCB, 0xE8] | .set_5_C => [0xCB, 0xE9] | .set_5_D => [0xCB, 0xEA] | .set_5_E => [0xCB, 0xEB]
  | .set_5_H => [0xCB, 0xEC] | .set_5_L => [0xCB, 0xED] | .set_5_mHL => [0xCB, 0xEE] | .set_5_A => [0xCB, 0xEF]
  | .set_6_B => [0xCB, 0xF0] | .set_6_C => [0xCB, 0xF1] | .set_6_D => [0xCB, 0xF2] | .set_6_E => [0xCB, 0xF3]
  | .set_6_H => [0xCB, 0xF4] | .set_6_L => [0xCB, 0xF5] | .set_6_mHL => [0xCB, 0xF6] | .set_6_A => [0xCB, 0xF7]
  | .set_7_B => [0xCB, 0xF8] | .set_7_C => [0xCB, 0xF9] | .set_7_D => [0xCB, 0xFA] | .set_7_E => [0xCB, 0xFB]
  | .set_7_H => [0xCB, 0xFC] | .set_7_L => [0xCB, 0xFD] | .set_7_mHL => [0xCB, 0xFE] | .set_7_A => [0xCB, 0xFF]

/-! ### The table's numbering of bits -/

/-- The bytes of an instruction whose bits are `w`, the first at the lowest address, with zeros up to the longest
instruction. A 16-bit row of the table is a row of the secondary space and numbers byte 0 as the more significant
(spec/30_encoding.md, head: "over bytes 0 and 1, byte 0 the more significant"). Any other word is read with its first
byte lowest. -/
def tableBytes (nbits w : Nat) : List Byte :=
  if nbits = 16 ∧ w / 256 = 0xCB then [0xCB, BitVec.ofNat 8 w, 0]
  else [BitVec.ofNat 8 w, BitVec.ofNat 8 (w / 256), BitVec.ofNat 8 (w / 65536)]

/-- What the decoder reads from a word of the opcode table. -/
def decodeTableWord (nbits w : Nat) : Option Instr :=
  match decode (tableBytes nbits w) with
  | .ok (i, _) => some i
  | .error _ => none

end Sys2Proof
end

