-- ==== Sys2Proof/Config.lean ====
section
/-! DEFINITION. The open parameters of spec/00_scope.md R6. They are plain data that the machine's state carries and no
step changes, so that a statement about every state holds under every setting. No value of this machine is left
undefined while it goes on (spec/93_implementation_defined.md Part 1), so there is no free value. -/

namespace Sys2Proof

/-- A run of bus addresses, both ends included. -/
structure AddrRange where
  lo : Word
  hi : Word
deriving DecidableEq, Repr

/-- What an unrecognized opcode byte does (R6, R252). -/
inductive UndefPolicy where
  | inert
  | fatal
deriving DecidableEq, Repr

/-- Whether the host may clear the halted flag (R6, R261). -/
inductive HostResume where
  | absent
  | present
deriving DecidableEq, Repr

/-- Whether the families the source names without rules are instructions (R6, R98). -/
inductive UnspecFamilies where
  | sm83
  | refuse
deriving DecidableEq, Repr

/-- The parameters of R6 that stay fixed while the machine runs. `hostRegion` lists runs of addresses; an address of
the video window inside a run stays the video device's, so HOST_REGION is the listed addresses outside the window. -/
structure Params where
  hostRegion     : List AddrRange
  undefPolicy    : UndefPolicy
  hostResume     : HostResume
  unspecFamilies : UnspecFamilies
deriving DecidableEq, Repr

/-- HOST_REGION = FLAT: every address outside the video window (R52). -/
def flatRegion : List AddrRange := [⟨0x0000, 0x7FFF⟩, ⟨0xA000, 0xFFFF⟩]

/-- HOST_REGION = STRICT: no address (R52). -/
def strictRegion : List AddrRange := []

/-- The default of every parameter that has one (R6), with HOST_REGION = FLAT.
DESIGN CHOICE, unsafe (log 1): the spec leaves HOST_REGION open. -/
def defaultParams : Params :=
  { hostRegion := flatRegion, undefPolicy := .inert, hostResume := .absent, unspecFamilies := .sm83 }

end Sys2Proof
end

