-- ==== Sys2Proof/Machine/State.lean ====
section
/-! DEFINITION. The state of gb-emu CORE, as plain data (spec/10_state.md, spec/20_memory.md R52,
spec/50_video_device.md R230), the reasons a step can stop, and the state after reset. -/

namespace Sys2Proof.Machine

/-- The kind of a bus access (R251). -/
inductive Access where
  | fetch | read | write
deriving DecidableEq, Repr

/-- Why the machine stops. A fault carries no state: "no claim may read state after a fault" (U3, R251), so every
fault here is safe. -/
inductive Fault where
  /-- BusFault (R251): raised by memRead and memWrite on an address that is neither in the video window nor in
  HOST_REGION. Terminal. Safe. -/
  | busFault (addr : Word) (kind : Access)
  /-- UndefinedOpcode under UNDEF_POLICY = fatal (R252): raised by undefinedOpcode, with the byte and the pc. Terminal.
  Safe. -/
  | undefinedOpcode (byte : Byte) (pc : Word)
  /-- A step asked of a machine whose faulted latch is set: "no step is taken" (R250, R251). Raised by whenRunning.
  Safe: nothing can be claimed of a faulted machine. -/
  | machineFaulted
deriving DecidableEq, Repr

/-- What is turned away with no effect on the state. -/
inductive Refusal where
  /-- Raised by an arm of exec whose instruction has no meaning yet; no arm is. Safe. -/
  | notModelled (mnemonic : String)
  /-- Raised by the host's video port at an offset above 0x1FFF: "refused (no effect, reported to the host as an error)"
  (R231). Safe. -/
  | videoOffset (offset : Nat)
  /-- Raised by the host's memory port at an address outside HOST_REGION (R266; log 7). Safe. -/
  | notHostOwned (addr : Word)
  /-- Raised by the host action Resume under HOST_RESUME = absent (R261; log 7). Safe. -/
  | resumeAbsent
  /-- Raised by the host's write of the halted flag under HOST_RESUME = absent: the spec's decision D16 lets the host
  write "not `halted` unless `HOST_RESUME = present`" (R264; log 7). Safe. -/
  | haltedNotWritable
deriving DecidableEq, Repr

/-- The four flags (R32). -/
structure Flags where
  z : Bool
  n : Bool
  h : Bool
  c : Bool
deriving DecidableEq, Repr

/-- One row of a tile, pixel `p0` first: the pixel of bit 7 (R230). -/
structure TileRow where
  p0 : BitVec 2
  p1 : BitVec 2
  p2 : BitVec 2
  p3 : BitVec 2
  p4 : BitVec 2
  p5 : BitVec 2
  p6 : BitVec 2
  p7 : BitVec 2
deriving DecidableEq, Repr

/-- A row of eight pixels of level 0 (R245): what an unlisted row of the tile set is. -/
def blankRow : TileRow := ⟨0, 0, 0, 0, 0, 0, 0, 0⟩

/-- What an unlisted byte of memory reads as: 0x00. For video memory this is the reset value (R245). For the
host-owned region it is a DESIGN CHOICE, unsafe (log 2): the spec leaves HOST_IMAGE open. -/
def fillByte : Byte := 0x00

/-- The machine. `vram` holds raw video memory by offset, `hostMem` the host-owned region by bus address, `tiles` the
rows of the tile set, row `r` of tile `t` under `8 * t + r`; each lists what differs from an unlisted entry. -/
structure State where
  a       : Byte
  b       : Byte
  c       : Byte
  d       : Byte
  e       : Byte
  h       : Byte
  l       : Byte
  flags   : Flags
  pc      : Word
  sp      : Word
  halted  : Bool
  faulted : Bool
  vram    : List Host.Cell
  tiles   : List (Nat × TileRow)
  hostMem : List Host.Cell
  params  : Params
deriving DecidableEq, Repr

/-- LAUNCH_STATE of R6: what the host installs before the first step. -/
structure LaunchState where
  a      : Byte
  b      : Byte
  c      : Byte
  d      : Byte
  e      : Byte
  h      : Byte
  l      : Byte
  flags  : Flags
  pc     : Word
  sp     : Word
  halted : Bool
deriving DecidableEq, Repr

/-- The launch state when the host installs nothing: the reset values of R280 (R6, R281). -/
def launchDefault : LaunchState :=
  { a := 0x00, b := 0x00, c := 0x00, d := 0x00, e := 0x00, h := 0x00, l := 0x00
    flags := ⟨false, false, false, false⟩
    pc := 0x0000, sp := 0x0000, halted := false }

/-- The machine before its first step: the video device and the faulted latch at their reset values (R280), HOST_IMAGE
and LAUNCH_STATE as the host installed them (R6, R267). That the launch may install the halted flag under either setting
of HOST_RESUME is R6's list, not the one of 92_eei_decisions.md (log 3). -/
def State.launch (params : Params) (image : List Host.Cell) (i : LaunchState) : State :=
  { a := i.a, b := i.b, c := i.c, d := i.d, e := i.e, h := i.h, l := i.l
    flags := i.flags
    pc := i.pc, sp := i.sp
    halted := i.halted, faulted := false
    vram := [], tiles := [], hostMem := image
    params := params }

/-- The machine after its first reset, under parameters `params` and with the host's image `image`, the host having
installed nothing (R280). -/
def State.boot (params : Params) (image : List Host.Cell) : State := State.launch params image launchDefault

/-- The machine right after reset: R280, with the defaults of R6, HOST_REGION = FLAT (log 1) and an image of zeros
(log 2). -/
def State.reset : State := State.boot defaultParams []

end Sys2Proof.Machine
end

