-- ==== Sys2Proof/Machine/Flags.lean ====
section
/-! DEFINITION. The flags byte and every flag computation: spec/10_state.md R32 to R34, spec/40_alu8.md R110, R111 and
R113, spec/41_add16_incdec.md R140, spec/42_stack_control.md R155, spec/45_rotate_a.md, spec/46_cb_prefixed.md R201. -/

namespace Sys2Proof.Machine

/-- One bit as a number. -/
def bit01 (b : Bool) : Nat := if b then 1 else 0

/-- R32: Z N H C in bits 7 6 5 4, zeros below. -/
def flagsByte (f : Flags) : Byte :=
  BitVec.ofNat 8 (128 * bit01 f.z + 64 * bit01 f.n + 32 * bit01 f.h + 16 * bit01 f.c)

/-- R33: bits 7 6 5 4 of the byte; the low nibble is lost. -/
def flagsOfByte (v : Byte) : Flags :=
  ⟨v.getLsbD 7, v.getLsbD 6, v.getLsbD 5, v.getLsbD 4⟩

/-- `Add8` of R110: the result and its four flags. -/
def add8 (a b : Byte) (cin : Bool) : Byte × Flags :=
  let sum := a.toNat + b.toNat + bit01 cin
  let result := BitVec.ofNat 8 sum
  (result,
    { z := decide (result = 0)
      n := false
      h := decide ((a &&& 0x0F).toNat + (b &&& 0x0F).toNat + bit01 cin > 0x0F)
      c := decide (sum > 0xFF) })

/-- `Sub8` of R111: the result and its four flags. -/
def sub8 (a b : Byte) (bin : Bool) : Byte × Flags :=
  let diff : Int := (a.toNat : Int) - (b.toNat : Int) - (bit01 bin : Int)
  let result := BitVec.ofInt 8 diff
  (result,
    { z := decide (result = 0)
      n := true
      h := decide ((a &&& 0x0F).toNat < (b &&& 0x0F).toNat + bit01 bin)
      c := decide (a.toNat < b.toNat + bit01 bin) })

/-- `Add16` of R140: the result, the half-carry out of bit 11 and the carry out of bit 15. -/
def add16 (a b : Word) : Word × Bool × Bool :=
  let sum := a.toNat + b.toNat
  (BitVec.ofNat 16 sum,
    decide ((a &&& 0x0FFF).toNat + (b &&& 0x0FFF).toNat > 0x0FFF),
    decide (sum > 0xFFFF))

/-- A bitwise result with its flags: Z from the result, N and C clear, H as given (R126, R129, R132). -/
def logic8 (result : Byte) (half : Bool) : Byte × Flags :=
  (result, { z := decide (result = 0), n := false, h := half, c := false })

/-- The byte the accumulator holds after an ALU operation, and the four flags (R114 to R137). CP keeps the accumulator
(R135). -/
def alu8 (o : AluOp) (a v : Byte) (carry : Bool) : Byte × Flags :=
  match o with
  | .add => add8 a v false
  | .adc => add8 a v carry
  | .sub => sub8 a v false
  | .sbc => sub8 a v carry
  | .and => logic8 (a &&& v) true
  | .xor => logic8 (a ^^^ v) false
  | .or => logic8 (a ||| v) false
  | .cp => (a, (sub8 a v false).2)

/-- 8-bit increment: Z N H by Add8 with 1, C kept (R143). -/
def inc8 (v : Byte) (f : Flags) : Byte × Flags :=
  let out := add8 v 1 false
  (out.1, { out.2 with c := f.c })

/-- 8-bit decrement: Z N H by Sub8 with 1, C kept (R145). -/
def dec8 (v : Byte) (f : Flags) : Byte × Flags :=
  let out := sub8 v 1 false
  (out.1, { out.2 with c := f.c })

/-- `Shift` of R201: the result and the bit shifted out. -/
def shift8 (k : ShiftKind) (v : Byte) (cin : Bool) : Byte × Bool :=
  let bits60 : BitVec 7 := v.extractLsb' 0 7
  let bits71 : BitVec 7 := v.extractLsb' 1 7
  match k with
  | .rlc => (bits60 ++ BitVec.ofBool (v.getLsbD 7), v.getLsbD 7)
  | .rrc => (BitVec.ofBool (v.getLsbD 0) ++ bits71, v.getLsbD 0)
  | .rl => (bits60 ++ BitVec.ofBool cin, v.getLsbD 7)
  | .rr => (BitVec.ofBool cin ++ bits71, v.getLsbD 0)
  | .sla => (bits60 ++ BitVec.ofBool false, v.getLsbD 7)
  | .sra => (BitVec.ofBool (v.getLsbD 7) ++ bits71, v.getLsbD 0)
  | .swap => ((v.extractLsb' 0 4 : BitVec 4) ++ (v.extractLsb' 4 4 : BitVec 4), false)
  | .srl => (BitVec.ofBool false ++ bits71, v.getLsbD 0)

/-- A secondary-space shift with its flags: Z from the result, N and H clear, C the bit shifted out (R201). The old
carry goes in where the kind takes one. -/
def shiftFlags (k : ShiftKind) (v : Byte) (f : Flags) : Byte × Flags :=
  let out := shift8 k v f.c
  (out.1, { z := decide (out.1 = 0), n := false, h := false, c := out.2 })

/-- An accumulator rotate with its flags: the rotate of R201 with Z always clear (R190 to R193). -/
def rotA8 (k : RotA) (v : Byte) (f : Flags) : Byte × Flags :=
  let kind : ShiftKind :=
    match k with
    | .rlca => .rlc | .rrca => .rrc | .rla => .rl | .rra => .rr
  let out := shift8 kind v f.c
  (out.1, { z := false, n := false, h := false, c := out.2 })

/-- The flags of BIT: Z the complement of the tested bit, N clear, H set, C kept (R218). -/
def bitFlags (b : BitIdx) (v : Byte) (f : Flags) : Flags :=
  { z := !v.getLsbD b.num, n := false, h := true, c := f.c }

/-- The byte with bit `b` cleared (R220). -/
def resBit (b : BitIdx) (v : Byte) : Byte := v &&& ~~~(1#8 <<< b.num)

/-- The byte with bit `b` set (R222). -/
def setBit (b : BitIdx) (v : Byte) : Byte := v ||| (1#8 <<< b.num)

/-- `Cond` of R155. -/
def condHolds (cc : Cond) (f : Flags) : Bool :=
  match cc with
  | .nz => !f.z
  | .z => f.z
  | .nc => !f.c
  | .c => f.c

end Sys2Proof.Machine
end

