-- ==== Sys2Proof/Machine/Ops.lean ====
section
/-! DEFINITION. The named operations over memory: sparse lists in canonical form, the video device
(spec/50_video_device.md), the bus (spec/20_memory.md), the stack (spec/42_stack_control.md R156, R157), the two
abnormal conditions (spec/60_exceptions.md R251, R252), and the fetch (R250). The hardware has no trap entry and no
return from one (R257, R258): raising a condition is all there is. -/

namespace Sys2Proof.Machine

/-- How an instruction ends. -/
abbrev Result := Host.Outcome State Fault Refusal

/-! ### Sparse lists

Pairs of a key and a value, keys strictly rising, no value equal to the one an unlisted key has. -/

/-- The value under key `i`; `d` where the key is not listed. -/
def sparseGet {α : Type} (d : α) : List (Nat × α) → Nat → α
  | [], _ => d
  | (k, x) :: m, i => if k = i then x else sparseGet d m i

/-- The list without key `i`. -/
def sparseErase {α : Type} : List (Nat × α) → Nat → List (Nat × α)
  | [], _ => []
  | (k, x) :: m, i => if k = i then sparseErase m i else (k, x) :: sparseErase m i

/-- The list with `v` under key `i`, at its place in rising order. -/
def sparseInsert {α : Type} : List (Nat × α) → Nat → α → List (Nat × α)
  | [], i, v => [(i, v)]
  | (k, x) :: m, i, v =>
    if i < k then (i, v) :: (k, x) :: m
    else if k = i then (i, v) :: m
    else (k, x) :: sparseInsert m i v

/-- Write `v` under key `i`. Writing what an unlisted key has removes the entry. -/
def sparsePut {α : Type} [DecidableEq α] (d : α) (m : List (Nat × α)) (i : Nat) (v : α) : List (Nat × α) :=
  if v = d then sparseErase m i else sparseInsert m i v

/-- The keys rise strictly and none is below `lo`. -/
def sparseRising {α : Type} : Nat → List (Nat × α) → Bool
  | _, [] => true
  | lo, (k, _) :: m => decide (lo ≤ k) && sparseRising (k + 1) m

/-- The canonical form. -/
def sparseWf {α : Type} [DecidableEq α] (d : α) (m : List (Nat × α)) : Bool :=
  sparseRising 0 m && m.all fun e => decide (e.2 ≠ d)

/-- The canonical form of a memory of bytes. -/
def memWf (m : List Host.Cell) : Bool := sparseWf fillByte m

/-- The canonical form of the tile set. -/
def tilesWf (m : List (Nat × TileRow)) : Bool := sparseWf blankRow m

/-! ### The video device -/

/-- R237. -/
def level (low high : Bool) : BitVec 2 :=
  match low, high with
  | true, true => 3
  | false, true => 2
  | true, false => 1
  | false, false => 0

/-- The eight pixels of a row from its low and its high bitplane, most significant bit first (R236). -/
def tileRow (low high : Byte) : TileRow :=
  { p0 := level (low.getLsbD 7) (high.getLsbD 7)
    p1 := level (low.getLsbD 6) (high.getLsbD 6)
    p2 := level (low.getLsbD 5) (high.getLsbD 5)
    p3 := level (low.getLsbD 4) (high.getLsbD 4)
    p4 := level (low.getLsbD 3) (high.getLsbD 3)
    p5 := level (low.getLsbD 2) (high.getLsbD 2)
    p6 := level (low.getLsbD 1) (high.getLsbD 1)
    p7 := level (low.getLsbD 0) (high.getLsbD 0) }

/-- Pixel `c` of a row. -/
def TileRow.pixel (row : TileRow) (c : Fin 8) : BitVec 2 :=
  if c.val = 0 then row.p0 else if c.val = 1 then row.p1 else if c.val = 2 then row.p2 else if c.val = 3 then row.p3
  else if c.val = 4 then row.p4 else if c.val = 5 then row.p5 else if c.val = 6 then row.p6 else row.p7

/-- Where row `r` of tile `t` is kept. -/
def tileKey (t r : Nat) : Nat := 8 * t + r

/-- Row `r` of tile `t`. -/
def State.tileRowAt (s : State) (t r : Nat) : TileRow := sparseGet blankRow s.tiles (tileKey t r)

/-- `VideoRead` of R234. -/
def State.videoRead (s : State) (o : Nat) : Byte := sparseGet fillByte s.vram o

/-- `RecomputeRow` of R236, on the bytes stored now. -/
def State.recomputeRow (s : State) (o : Nat) : State :=
  let e := o - o % 2
  let low := s.videoRead e
  let high := s.videoRead (e + 1)
  { s with tiles := sparsePut blankRow s.tiles (tileKey (o / 16) (o % 16 / 2)) (tileRow low high) }

/-- `VideoWrite` of R235: the store, then the one row of the tile-data window. -/
def State.videoWrite (s : State) (o : Nat) (v : Byte) : State :=
  let stored := { s with vram := sparsePut fillByte s.vram o v }
  if o ≤ 0x17FF then stored.recomputeRow o else stored

/-! ### The bus -/

/-- The address is in the video window (R51). -/
def inVideo (x : Word) : Bool := decide (¬ x.toNat < 0x8000 ∧ x.toNat ≤ 0x9FFF)

/-- The zero-based offset of an address of the window (R51). -/
def videoOffset (x : Word) : Nat := (x - 0x8000).toNat

/-- The range holds the address. -/
def rangeHolds (r : AddrRange) (x : Word) : Bool := decide (¬ x.toNat < r.lo.toNat ∧ x.toNat ≤ r.hi.toNat)

/-- The address is in HOST_REGION, which is disjoint from the video window (R52). -/
def hostOwns (p : Params) (x : Word) : Bool := !inVideo x && p.hostRegion.any fun r => rangeHolds r x

/-- An access to the address does not fault (R54). -/
def State.mapped (s : State) (x : Word) : Bool := inVideo x || hostOwns s.params x

/-- The byte at a bus address: the one way the model reads a byte of memory (R53). -/
def State.byteAt (s : State) (x : Word) : Byte :=
  if inVideo x then s.videoRead (videoOffset x) else sparseGet fillByte s.hostMem x.toNat

/-- The state after a byte is stored at a bus address: the one way a bus access changes memory (R53). -/
def State.storeByte (s : State) (x : Word) (v : Byte) : State :=
  if inVideo x then s.videoWrite (videoOffset x) v
  else { s with hostMem := sparsePut fillByte s.hostMem x.toNat v }

/-- BusFault (R251): terminal. -/
def raiseBusFault (x : Word) (kind : Access) : Result := .fault (.busFault x kind)

/-- `MemRead(x, 1)` of R53, then the rest of the pseudocode. -/
def memRead (s : State) (x : Word) (kind : Access) (rest : Byte → Result) : Result :=
  if s.mapped x then rest (s.byteAt x) else raiseBusFault x kind

/-- `MemWrite(x, 1, v)` of R53, then the rest of the pseudocode. -/
def memWrite (s : State) (x : Word) (v : Byte) (rest : State → Result) : Result :=
  if s.mapped x then rest (s.storeByte x v) else raiseBusFault x .write

/-- `MemRead(x, 2)` of R57: low byte first. -/
def memRead16 (s : State) (x : Word) (kind : Access) (rest : Word → Result) : Result :=
  memRead s x kind fun lo => memRead s (x + 1) kind fun hi => rest (hi ++ lo)

/-! ### PC, SP and the flags -/

/-- `pc <- v`. -/
def State.setPc (s : State) (v : Word) : State := { s with pc := v }

/-- `sp <- v`. -/
def State.setSp (s : State) (v : Word) : State := { s with sp := v }

/-- The four flags written together. -/
def State.setFlags (s : State) (f : Flags) : State := { s with flags := f }

/-- The step's own advance of PC (R29). -/
def State.advance (s : State) (n : Word) : State := s.setPc (s.pc + n)

/-! ### The stack -/

/-- `Push16` of R156: high byte at `sp - 1`, low byte at `sp - 2`. -/
def push16 (s : State) (v : Word) (rest : State → Result) : Result :=
  let s1 := s.setSp (s.sp - 1)
  memWrite s1 s1.sp (v.extractLsb' 8 8) fun s2 =>
    let s3 := s2.setSp (s2.sp - 1)
    memWrite s3 s3.sp (v.extractLsb' 0 8) rest

/-- `Pop16` of R157: low byte from `sp`, high byte from `sp + 1`. -/
def pop16 (s : State) (rest : Word → State → Result) : Result :=
  memRead s s.sp .read fun lo =>
    let s1 := s.setSp (s.sp + 1)
    memRead s1 s1.sp .read fun hi => rest (hi ++ lo) (s1.setSp (s1.sp + 1))

/-! ### The step's conditions -/

/-- UndefinedOpcode (R252): inert, or terminal with the byte and the pc. -/
def undefinedOpcode (op : Byte) (s : State) : Result :=
  match s.params.undefPolicy with
  | .inert => .next s
  | .fatal => .fault (.undefinedOpcode op s.pc)

/-- The tests every Step and Execute begins with (R250, R263): no step of a faulted machine, an inert step of a halted
one. -/
def whenRunning (s : State) (rest : Result) : Result :=
  if s.faulted then .fault .machineFaulted
  else if s.halted then .next s
  else rest

/-- The byte is unrecognized by the parameter UNSPEC_FAMILIES (R98). -/
def State.refusesByte (s : State) (op : Byte) : Bool :=
  decide (s.params.unspecFamilies = .refuse) && unspecByte op

/-- Fetch and decode (R250, R101): the byte at PC, and the byte after it when the first is 0xCB. -/
def fetchInstr (s : State) (run : Instr → Result) : Result :=
  memRead s s.pc .fetch fun op =>
    if s.refusesByte op then undefinedOpcode op s
    else if op = 0xCB then memRead s (s.pc + 1) .fetch fun op2 => run (decodeCb op2)
    else run (decodeMain op)

/-! ### Placing an instruction where the next step fetches -/

/-- The machine with an address made one an access does not fault on. -/
def State.makeMapped (s : State) (x : Word) : State :=
  if s.mapped x then s else { s with params := { s.params with hostRegion := ⟨x, x⟩ :: s.params.hostRegion } }

/-- The machine with bytes stored at rising addresses from `x`. -/
def State.placeBytes (s : State) (x : Word) : List Byte → State
  | [] => s
  | v :: vs => ((s.makeMapped x).storeByte x v).placeBytes (x + 1) vs

/-- The machine with bytes stored at PC and in a condition to take a step. -/
def State.placeInstr (s : State) (bytes : List Byte) : State :=
  { s with halted := false, faulted := false }.placeBytes s.pc bytes

end Sys2Proof.Machine
end

