-- ==== Sys2Proof/Machine/Operands.lean ====
section
/-! DEFINITION. Registers, pair views and the operand forms: spec/10_state.md R20 to R31, spec/40_alu8.md R112,
spec/43_load.md R180, spec/30_encoding.md R87, R88. -/

namespace Sys2Proof.Machine

/-- `x[r]` (R20). -/
def State.getReg (s : State) (r : Reg8) : Byte :=
  match r with
  | .b => s.b | .c => s.c | .d => s.d | .e => s.e | .h => s.h | .l => s.l | .a => s.a

/-- `x[r] <- v` (R20). -/
def State.setReg (s : State) (r : Reg8) (v : Byte) : State :=
  match r with
  | .b => { s with b := v } | .c => { s with c := v } | .d => { s with d := v } | .e => { s with e := v }
  | .h => { s with h := v } | .l => { s with l := v } | .a => { s with a := v }

/-- `F` (R32). -/
def State.fByte (s : State) : Byte := flagsByte s.flags

/-- `pair[p]` (R24). -/
def State.getPair (s : State) (p : PairView) : Word :=
  match p with
  | .bc => s.b ++ s.c
  | .de => s.d ++ s.e
  | .hl => s.h ++ s.l
  | .af => s.a ++ s.fByte

/-- `pair[p] <- v` (R25). -/
def State.setPair (s : State) (p : PairView) (v : Word) : State :=
  let hi : Byte := v.extractLsb' 8 8
  let lo : Byte := v.extractLsb' 0 8
  match p with
  | .bc => { s with b := hi, c := lo }
  | .de => { s with d := hi, e := lo }
  | .hl => { s with h := hi, l := lo }
  | .af => { s with a := hi, flags := flagsOfByte lo }

/-- The 16-bit operand of table A (R84). -/
def State.getSel (s : State) (p : PairSel) : Word :=
  match p with
  | .bc => s.getPair .bc
  | .de => s.getPair .de
  | .hl => s.getPair .hl
  | .sp => s.sp

/-- The write of a 16-bit operand of table A (R84). -/
def State.setSel (s : State) (p : PairSel) (v : Word) : State :=
  match p with
  | .bc => s.setPair .bc v
  | .de => s.setPair .de v
  | .hl => s.setPair .hl v
  | .sp => s.setSp v

/-- The address in HL (R22). -/
def State.hl (s : State) : Word := s.getPair .hl

/-- The memory operand (HL), read (R112). -/
def withMem (s : State) (rest : Byte → Result) : Result := memRead s s.hl .read rest

/-- The immediate `n` (R87). -/
def withImm (s : State) (rest : Byte → Result) : Result := memRead s (s.pc + 1) .fetch rest

/-- The immediate `nn` (R88). -/
def withImm16 (s : State) (rest : Word → Result) : Result := memRead16 s (s.pc + 1) .fetch rest

end Sys2Proof.Machine
end

