-- ==== Sys2Proof/Machine/Alu8.lean ====
section
/-! DEFINITION. 8-bit arithmetic and logic on the accumulator: ADD, ADC, SUB, SBC, AND, XOR, OR, CP on a register, on
the memory byte at HL and on an immediate byte (spec/40_alu8.md R114 to R137). -/

namespace Sys2Proof.Machine

/-- The accumulator and the flags after operation `o` with operand `v`. -/
def State.aluCommit (s : State) (o : AluOp) (v : Byte) : State :=
  let out := alu8 o s.a v s.flags.c
  (s.setReg .a out.1).setFlags out.2

/-- The register form. -/
def aluReg (o : AluOp) (r : Reg8) (s : State) : Result := .next ((s.aluCommit o (s.getReg r)).advance 1)

/-- The (HL) form. -/
def aluMem (o : AluOp) (s : State) : Result := withMem s fun v => .next ((s.aluCommit o v).advance 1)

/-- The immediate form. -/
def aluImm (o : AluOp) (s : State) : Result := withImm s fun v => .next ((s.aluCommit o v).advance 2)

/-- `ADD A,B`: R114. -/
def execAdd_A_B (s : State) : Result := aluReg .add .b s
/-- `ADD A,C`: R114. -/
def execAdd_A_C (s : State) : Result := aluReg .add .c s
/-- `ADD A,D`: R114. -/
def execAdd_A_D (s : State) : Result := aluReg .add .d s
/-- `ADD A,E`: R114. -/
def execAdd_A_E (s : State) : Result := aluReg .add .e s
/-- `ADD A,H`: R114. -/
def execAdd_A_H (s : State) : Result := aluReg .add .h s
/-- `ADD A,L`: R114. -/
def execAdd_A_L (s : State) : Result := aluReg .add .l s
/-- `ADD A,(HL)`: R115. -/
def execAdd_A_mHL (s : State) : Result := aluMem .add s
/-- `ADD A,A`: R114. -/
def execAdd_A_A (s : State) : Result := aluReg .add .a s
/-- `ADC A,B`: R117. -/
def execAdc_A_B (s : State) : Result := aluReg .adc .b s
/-- `ADC A,C`: R117. -/
def execAdc_A_C (s : State) : Result := aluReg .adc .c s
/-- `ADC A,D`: R117. -/
def execAdc_A_D (s : State) : Result := aluReg .adc .d s
/-- `ADC A,E`: R117. -/
def execAdc_A_E (s : State) : Result := aluReg .adc .e s
/-- `ADC A,H`: R117. -/
def execAdc_A_H (s : State) : Result := aluReg .adc .h s
/-- `ADC A,L`: R117. -/
def execAdc_A_L (s : State) : Result := aluReg .adc .l s
/-- `ADC A,(HL)`: R118. -/
def execAdc_A_mHL (s : State) : Result := aluMem .adc s
/-- `ADC A,A`: R117. -/
def execAdc_A_A (s : State) : Result := aluReg .adc .a s
/-- `SUB B`: R120. -/
def execSub_B (s : State) : Result := aluReg .sub .b s
/-- `SUB C`: R120. -/
def execSub_C (s : State) : Result := aluReg .sub .c s
/-- `SUB D`: R120. -/
def execSub_D (s : State) : Result := aluReg .sub .d s
/-- `SUB E`: R120. -/
def execSub_E (s : State) : Result := aluReg .sub .e s
/-- `SUB H`: R120. -/
def execSub_H (s : State) : Result := aluReg .sub .h s
/-- `SUB L`: R120. -/
def execSub_L (s : State) : Result := aluReg .sub .l s
/-- `SUB (HL)`: R121. -/
def execSub_mHL (s : State) : Result := aluMem .sub s
/-- `SUB A`: R120. -/
def execSub_A (s : State) : Result := aluReg .sub .a s
/-- `SBC A,B`: R123. -/
def execSbc_A_B (s : State) : Result := aluReg .sbc .b s
/-- `SBC A,C`: R123. -/
def execSbc_A_C (s : State) : Result := aluReg .sbc .c s
/-- `SBC A,D`: R123. -/
def execSbc_A_D (s : State) : Result := aluReg .sbc .d s
/-- `SBC A,E`: R123. -/
def execSbc_A_E (s : State) : Result := aluReg .sbc .e s
/-- `SBC A,H`: R123. -/
def execSbc_A_H (s : State) : Result := aluReg .sbc .h s
/-- `SBC A,L`: R123. -/
def execSbc_A_L (s : State) : Result := aluReg .sbc .l s
/-- `SBC A,(HL)`: R124. -/
def execSbc_A_mHL (s : State) : Result := aluMem .sbc s
/-- `SBC A,A`: R123. -/
def execSbc_A_A (s : State) : Result := aluReg .sbc .a s
/-- `AND B`: R126. -/
def execAnd_B (s : State) : Result := aluReg .and .b s
/-- `AND C`: R126. -/
def execAnd_C (s : State) : Result := aluReg .and .c s
/-- `AND D`: R126. -/
def execAnd_D (s : State) : Result := aluReg .and .d s
/-- `AND E`: R126. -/
def execAnd_E (s : State) : Result := aluReg .and .e s
/-- `AND H`: R126. -/
def execAnd_H (s : State) : Result := aluReg .and .h s
/-- `AND L`: R126. -/
def execAnd_L (s : State) : Result := aluReg .and .l s
/-- `AND (HL)`: R127. -/
def execAnd_mHL (s : State) : Result := aluMem .and s
/-- `AND A`: R126. -/
def execAnd_A (s : State) : Result := aluReg .and .a s
/-- `XOR B`: R129. -/
def execXor_B (s : State) : Result := aluReg .xor .b s
/-- `XOR C`: R129. -/
def execXor_C (s : State) : Result := aluReg .xor .c s
/-- `XOR D`: R129. -/
def execXor_D (s : State) : Result := aluReg .xor .d s
/-- `XOR E`: R129. -/
def execXor_E (s : State) : Result := aluReg .xor .e s
/-- `XOR H`: R129. -/
def execXor_H (s : State) : Result := aluReg .xor .h s
/-- `XOR L`: R129. -/
def execXor_L (s : State) : Result := aluReg .xor .l s
/-- `XOR (HL)`: R130. -/
def execXor_mHL (s : State) : Result := aluMem .xor s
/-- `XOR A`: R129. -/
def execXor_A (s : State) : Result := aluReg .xor .a s
/-- `OR B`: R132. -/
def execOr_B (s : State) : Result := aluReg .or .b s
/-- `OR C`: R132. -/
def execOr_C (s : State) : Result := aluReg .or .c s
/-- `OR D`: R132. -/
def execOr_D (s : State) : Result := aluReg .or .d s
/-- `OR E`: R132. -/
def execOr_E (s : State) : Result := aluReg .or .e s
/-- `OR H`: R132. -/
def execOr_H (s : State) : Result := aluReg .or .h s
/-- `OR L`: R132. -/
def execOr_L (s : State) : Result := aluReg .or .l s
/-- `OR (HL)`: R133. -/
def execOr_mHL (s : State) : Result := aluMem .or s
/-- `OR A`: R132. -/
def execOr_A (s : State) : Result := aluReg .or .a s
/-- `CP B`: R135. -/
def execCp_B (s : State) : Result := aluReg .cp .b s
/-- `CP C`: R135. -/
def execCp_C (s : State) : Result := aluReg .cp .c s
/-- `CP D`: R135. -/
def execCp_D (s : State) : Result := aluReg .cp .d s
/-- `CP E`: R135. -/
def execCp_E (s : State) : Result := aluReg .cp .e s
/-- `CP H`: R135. -/
def execCp_H (s : State) : Result := aluReg .cp .h s
/-- `CP L`: R135. -/
def execCp_L (s : State) : Result := aluReg .cp .l s
/-- `CP (HL)`: R136. -/
def execCp_mHL (s : State) : Result := aluMem .cp s
/-- `CP A`: R135. -/
def execCp_A (s : State) : Result := aluReg .cp .a s
/-- `ADD A,n`: R116. -/
def execAdd_A_n (s : State) : Result := aluImm .add s
/-- `ADC A,n`: R119. -/
def execAdc_A_n (s : State) : Result := aluImm .adc s
/-- `SUB n`: R122. -/
def execSub_n (s : State) : Result := aluImm .sub s
/-- `SBC A,n`: R125. -/
def execSbc_A_n (s : State) : Result := aluImm .sbc s
/-- `AND n`: R128. -/
def execAnd_n (s : State) : Result := aluImm .and s
/-- `XOR n`: R131. -/
def execXor_n (s : State) : Result := aluImm .xor s
/-- `OR n`: R134. -/
def execOr_n (s : State) : Result := aluImm .or s
/-- `CP n`: R137. -/
def execCp_n (s : State) : Result := aluImm .cp s

end Sys2Proof.Machine
end

