-- ==== Sys2Proof/Machine/CbBit.lean ====
section
/-! DEFINITION. The secondary space, BIT, RES and SET (spec/46_cb_prefixed.md R218 to R223). -/

namespace Sys2Proof.Machine

/-- R218. -/
def bitReg (b : BitIdx) (r : Reg8) (s : State) : Result :=
  .next ((s.setFlags (bitFlags b (s.getReg r) s.flags)).advance 2)

/-- R219: no write. -/
def bitMem (b : BitIdx) (s : State) : Result :=
  withMem s fun v => .next ((s.setFlags (bitFlags b v s.flags)).advance 2)

/-- R220. -/
def resReg (b : BitIdx) (r : Reg8) (s : State) : Result := .next ((s.setReg r (resBit b (s.getReg r))).advance 2)

/-- R221. -/
def resMem (b : BitIdx) (s : State) : Result :=
  withMem s fun v => memWrite s s.hl (resBit b v) fun s1 => .next (s1.advance 2)

/-- R222. -/
def setReg (b : BitIdx) (r : Reg8) (s : State) : Result := .next ((s.setReg r (setBit b (s.getReg r))).advance 2)

/-- R223. -/
def setMem (b : BitIdx) (s : State) : Result :=
  withMem s fun v => memWrite s s.hl (setBit b v) fun s1 => .next (s1.advance 2)

/-- `BIT 0,B`: R218. -/
def execBit_0_B (s : State) : Result := bitReg .b0 .b s
/-- `BIT 0,C`: R218. -/
def execBit_0_C (s : State) : Result := bitReg .b0 .c s
/-- `BIT 0,D`: R218. -/
def execBit_0_D (s : State) : Result := bitReg .b0 .d s
/-- `BIT 0,E`: R218. -/
def execBit_0_E (s : State) : Result := bitReg .b0 .e s
/-- `BIT 0,H`: R218. -/
def execBit_0_H (s : State) : Result := bitReg .b0 .h s
/-- `BIT 0,L`: R218. -/
def execBit_0_L (s : State) : Result := bitReg .b0 .l s
/-- `BIT 0,(HL)`: R219. -/
def execBit_0_mHL (s : State) : Result := bitMem .b0 s
/-- `BIT 0,A`: R218. -/
def execBit_0_A (s : State) : Result := bitReg .b0 .a s
/-- `BIT 1,B`: R218. -/
def execBit_1_B (s : State) : Result := bitReg .b1 .b s
/-- `BIT 1,C`: R218. -/
def execBit_1_C (s : State) : Result := bitReg .b1 .c s
/-- `BIT 1,D`: R218. -/
def execBit_1_D (s : State) : Result := bitReg .b1 .d s
/-- `BIT 1,E`: R218. -/
def execBit_1_E (s : State) : Result := bitReg .b1 .e s
/-- `BIT 1,H`: R218. -/
def execBit_1_H (s : State) : Result := bitReg .b1 .h s
/-- `BIT 1,L`: R218. -/
def execBit_1_L (s : State) : Result := bitReg .b1 .l s
/-- `BIT 1,(HL)`: R219. -/
def execBit_1_mHL (s : State) : Result := bitMem .b1 s
/-- `BIT 1,A`: R218. -/
def execBit_1_A (s : State) : Result := bitReg .b1 .a s
/-- `BIT 2,B`: R218. -/
def execBit_2_B (s : State) : Result := bitReg .b2 .b s
/-- `BIT 2,C`: R218. -/
def execBit_2_C (s : State) : Result := bitReg .b2 .c s
/-- `BIT 2,D`: R218. -/
def execBit_2_D (s : State) : Result := bitReg .b2 .d s
/-- `BIT 2,E`: R218. -/
def execBit_2_E (s : State) : Result := bitReg .b2 .e s
/-- `BIT 2,H`: R218. -/
def execBit_2_H (s : State) : Result := bitReg .b2 .h s
/-- `BIT 2,L`: R218. -/
def execBit_2_L (s : State) : Result := bitReg .b2 .l s
/-- `BIT 2,(HL)`: R219. -/
def execBit_2_mHL (s : State) : Result := bitMem .b2 s
/-- `BIT 2,A`: R218. -/
def execBit_2_A (s : State) : Result := bitReg .b2 .a s
/-- `BIT 3,B`: R218. -/
def execBit_3_B (s : State) : Result := bitReg .b3 .b s
/-- `BIT 3,C`: R218. -/
def execBit_3_C (s : State) : Result := bitReg .b3 .c s
/-- `BIT 3,D`: R218. -/
def execBit_3_D (s : State) : Result := bitReg .b3 .d s
/-- `BIT 3,E`: R218. -/
def execBit_3_E (s : State) : Result := bitReg .b3 .e s
/-- `BIT 3,H`: R218. -/
def execBit_3_H (s : State) : Result := bitReg .b3 .h s
/-- `BIT 3,L`: R218. -/
def execBit_3_L (s : State) : Result := bitReg .b3 .l s
/-- `BIT 3,(HL)`: R219. -/
def execBit_3_mHL (s : State) : Result := bitMem .b3 s
/-- `BIT 3,A`: R218. -/
def execBit_3_A (s : State) : Result := bitReg .b3 .a s
/-- `BIT 4,B`: R218. -/
def execBit_4_B (s : State) : Result := bitReg .b4 .b s
/-- `BIT 4,C`: R218. -/
def execBit_4_C (s : State) : Result := bitReg .b4 .c s
/-- `BIT 4,D`: R218. -/
def execBit_4_D (s : State) : Result := bitReg .b4 .d s
/-- `BIT 4,E`: R218. -/
def execBit_4_E (s : State) : Result := bitReg .b4 .e s
/-- `BIT 4,H`: R218. -/
def execBit_4_H (s : State) : Result := bitReg .b4 .h s
/-- `BIT 4,L`: R218. -/
def execBit_4_L (s : State) : Result := bitReg .b4 .l s
/-- `BIT 4,(HL)`: R219. -/
def execBit_4_mHL (s : State) : Result := bitMem .b4 s
/-- `BIT 4,A`: R218. -/
def execBit_4_A (s : State) : Result := bitReg .b4 .a s
/-- `BIT 5,B`: R218. -/
def execBit_5_B (s : State) : Result := bitReg .b5 .b s
/-- `BIT 5,C`: R218. -/
def execBit_5_C (s : State) : Result := bitReg .b5 .c s
/-- `BIT 5,D`: R218. -/
def execBit_5_D (s : State) : Result := bitReg .b5 .d s
/-- `BIT 5,E`: R218. -/
def execBit_5_E (s : State) : Result := bitReg .b5 .e s
/-- `BIT 5,H`: R218. -/
def execBit_5_H (s : State) : Result := bitReg .b5 .h s
/-- `BIT 5,L`: R218. -/
def execBit_5_L (s : State) : Result := bitReg .b5 .l s
/-- `BIT 5,(HL)`: R219. -/
def execBit_5_mHL (s : State) : Result := bitMem .b5 s
/-- `BIT 5,A`: R218. -/
def execBit_5_A (s : State) : Result := bitReg .b5 .a s
/-- `BIT 6,B`: R218. -/
def execBit_6_B (s : State) : Result := bitReg .b6 .b s
/-- `BIT 6,C`: R218. -/
def execBit_6_C (s : State) : Result := bitReg .b6 .c s
/-- `BIT 6,D`: R218. -/
def execBit_6_D (s : State) : Result := bitReg .b6 .d s
/-- `BIT 6,E`: R218. -/
def execBit_6_E (s : State) : Result := bitReg .b6 .e s
/-- `BIT 6,H`: R218. -/
def execBit_6_H (s : State) : Result := bitReg .b6 .h s
/-- `BIT 6,L`: R218. -/
def execBit_6_L (s : State) : Result := bitReg .b6 .l s
/-- `BIT 6,(HL)`: R219. -/
def execBit_6_mHL (s : State) : Result := bitMem .b6 s
/-- `BIT 6,A`: R218. -/
def execBit_6_A (s : State) : Result := bitReg .b6 .a s
/-- `BIT 7,B`: R218. -/
def execBit_7_B (s : State) : Result := bitReg .b7 .b s
/-- `BIT 7,C`: R218. -/
def execBit_7_C (s : State) : Result := bitReg .b7 .c s
/-- `BIT 7,D`: R218. -/
def execBit_7_D (s : State) : Result := bitReg .b7 .d s
/-- `BIT 7,E`: R218. -/
def execBit_7_E (s : State) : Result := bitReg .b7 .e s
/-- `BIT 7,H`: R218. -/
def execBit_7_H (s : State) : Result := bitReg .b7 .h s
/-- `BIT 7,L`: R218. -/
def execBit_7_L (s : State) : Result := bitReg .b7 .l s
/-- `BIT 7,(HL)`: R219. -/
def execBit_7_mHL (s : State) : Result := bitMem .b7 s
/-- `BIT 7,A`: R218. -/
def execBit_7_A (s : State) : Result := bitReg .b7 .a s
/-- `RES 0,B`: R220. -/
def execRes_0_B (s : State) : Result := resReg .b0 .b s
/-- `RES 0,C`: R220. -/
def execRes_0_C (s : State) : Result := resReg .b0 .c s
/-- `RES 0,D`: R220. -/
def execRes_0_D (s : State) : Result := resReg .b0 .d s
/-- `RES 0,E`: R220. -/
def execRes_0_E (s : State) : Result := resReg .b0 .e s
/-- `RES 0,H`: R220. -/
def execRes_0_H (s : State) : Result := resReg .b0 .h s
/-- `RES 0,L`: R220. -/
def execRes_0_L (s : State) : Result := resReg .b0 .l s
/-- `RES 0,(HL)`: R221. -/
def execRes_0_mHL (s : State) : Result := resMem .b0 s
/-- `RES 0,A`: R220. -/
def execRes_0_A (s : State) : Result := resReg .b0 .a s
/-- `RES 1,B`: R220. -/
def execRes_1_B (s : State) : Result := resReg .b1 .b s
/-- `RES 1,C`: R220. -/
def execRes_1_C (s : State) : Result := resReg .b1 .c s
/-- `RES 1,D`: R220. -/
def execRes_1_D (s : State) : Result := resReg .b1 .d s
/-- `RES 1,E`: R220. -/
def execRes_1_E (s : State) : Result := resReg .b1 .e s
/-- `RES 1,H`: R220. -/
def execRes_1_H (s : State) : Result := resReg .b1 .h s
/-- `RES 1,L`: R220. -/
def execRes_1_L (s : State) : Result := resReg .b1 .l s
/-- `RES 1,(HL)`: R221. -/
def execRes_1_mHL (s : State) : Result := resMem .b1 s
/-- `RES 1,A`: R220. -/
def execRes_1_A (s : State) : Result := resReg .b1 .a s
/-- `RES 2,B`: R220. -/
def execRes_2_B (s : State) : Result := resReg .b2 .b s
/-- `RES 2,C`: R220. -/
def execRes_2_C (s : State) : Result := resReg .b2 .c s
/-- `RES 2,D`: R220. -/
def execRes_2_D (s : State) : Result := resReg .b2 .d s
/-- `RES 2,E`: R220. -/
def execRes_2_E (s : State) : Result := resReg .b2 .e s
/-- `RES 2,H`: R220. -/
def execRes_2_H (s : State) : Result := resReg .b2 .h s
/-- `RES 2,L`: R220. -/
def execRes_2_L (s : State) : Result := resReg .b2 .l s
/-- `RES 2,(HL)`: R221. -/
def execRes_2_mHL (s : State) : Result := resMem .b2 s
/-- `RES 2,A`: R220. -/
def execRes_2_A (s : State) : Result := resReg .b2 .a s
/-- `RES 3,B`: R220. -/
def execRes_3_B (s : State) : Result := resReg .b3 .b s
/-- `RES 3,C`: R220. -/
def execRes_3_C (s : State) : Result := resReg .b3 .c s
/-- `RES 3,D`: R220. -/
def execRes_3_D (s : State) : Result := resReg .b3 .d s
/-- `RES 3,E`: R220. -/
def execRes_3_E (s : State) : Result := resReg .b3 .e s
/-- `RES 3,H`: R220. -/
def execRes_3_H (s : State) : Result := resReg .b3 .h s
/-- `RES 3,L`: R220. -/
def execRes_3_L (s : State) : Result := resReg .b3 .l s
/-- `RES 3,(HL)`: R221. -/
def execRes_3_mHL (s : State) : Result := resMem .b3 s
/-- `RES 3,A`: R220. -/
def execRes_3_A (s : State) : Result := resReg .b3 .a s
/-- `RES 4,B`: R220. -/
def execRes_4_B (s : State) : Result := resReg .b4 .b s
/-- `RES 4,C`: R220. -/
def execRes_4_C (s : State) : Result := resReg .b4 .c s
/-- `RES 4,D`: R220. -/
def execRes_4_D (s : State) : Result := resReg .b4 .d s
/-- `RES 4,E`: R220. -/
def execRes_4_E (s : State) : Result := resReg .b4 .e s
/-- `RES 4,H`: R220. -/
def execRes_4_H (s : State) : Result := resReg .b4 .h s
/-- `RES 4,L`: R220. -/
def execRes_4_L (s : State) : Result := resReg .b4 .l s
/-- `RES 4,(HL)`: R221. -/
def execRes_4_mHL (s : State) : Result := resMem .b4 s
/-- `RES 4,A`: R220. -/
def execRes_4_A (s : State) : Result := resReg .b4 .a s
/-- `RES 5,B`: R220. -/
def execRes_5_B (s : State) : Result := resReg .b5 .b s
/-- `RES 5,C`: R220. -/
def execRes_5_C (s : State) : Result := resReg .b5 .c s
/-- `RES 5,D`: R220. -/
def execRes_5_D (s : State) : Result := resReg .b5 .d s
/-- `RES 5,E`: R220. -/
def execRes_5_E (s : State) : Result := resReg .b5 .e s
/-- `RES 5,H`: R220. -/
def execRes_5_H (s : State) : Result := resReg .b5 .h s
/-- `RES 5,L`: R220. -/
def execRes_5_L (s : State) : Result := resReg .b5 .l s
/-- `RES 5,(HL)`: R221. -/
def execRes_5_mHL (s : State) : Result := resMem .b5 s
/-- `RES 5,A`: R220. -/
def execRes_5_A (s : State) : Result := resReg .b5 .a s
/-- `RES 6,B`: R220. -/
def execRes_6_B (s : State) : Result := resReg .b6 .b s
/-- `RES 6,C`: R220. -/
def execRes_6_C (s : State) : Result := resReg .b6 .c s
/-- `RES 6,D`: R220. -/
def execRes_6_D (s : State) : Result := resReg .b6 .d s
/-- `RES 6,E`: R220. -/
def execRes_6_E (s : State) : Result := resReg .b6 .e s
/-- `RES 6,H`: R220. -/
def execRes_6_H (s : State) : Result := resReg .b6 .h s
/-- `RES 6,L`: R220. -/
def execRes_6_L (s : State) : Result := resReg .b6 .l s
/-- `RES 6,(HL)`: R221. -/
def execRes_6_mHL (s : State) : Result := resMem .b6 s
/-- `RES 6,A`: R220. -/
def execRes_6_A (s : State) : Result := resReg .b6 .a s
/-- `RES 7,B`: R220. -/
def execRes_7_B (s : State) : Result := resReg .b7 .b s
/-- `RES 7,C`: R220. -/
def execRes_7_C (s : State) : Result := resReg .b7 .c s
/-- `RES 7,D`: R220. -/
def execRes_7_D (s : State) : Result := resReg .b7 .d s
/-- `RES 7,E`: R220. -/
def execRes_7_E (s : State) : Result := resReg .b7 .e s
/-- `RES 7,H`: R220. -/
def execRes_7_H (s : State) : Result := resReg .b7 .h s
/-- `RES 7,L`: R220. -/
def execRes_7_L (s : State) : Result := resReg .b7 .l s
/-- `RES 7,(HL)`: R221. -/
def execRes_7_mHL (s : State) : Result := resMem .b7 s
/-- `RES 7,A`: R220. -/
def execRes_7_A (s : State) : Result := resReg .b7 .a s
/-- `SET 0,B`: R222. -/
def execSet_0_B (s : State) : Result := setReg .b0 .b s
/-- `SET 0,C`: R222. -/
def execSet_0_C (s : State) : Result := setReg .b0 .c s
/-- `SET 0,D`: R222. -/
def execSet_0_D (s : State) : Result := setReg .b0 .d s
/-- `SET 0,E`: R222. -/
def execSet_0_E (s : State) : Result := setReg .b0 .e s
/-- `SET 0,H`: R222. -/
def execSet_0_H (s : State) : Result := setReg .b0 .h s
/-- `SET 0,L`: R222. -/
def execSet_0_L (s : State) : Result := setReg .b0 .l s
/-- `SET 0,(HL)`: R223. -/
def execSet_0_mHL (s : State) : Result := setMem .b0 s
/-- `SET 0,A`: R222. -/
def execSet_0_A (s : State) : Result := setReg .b0 .a s
/-- `SET 1,B`: R222. -/
def execSet_1_B (s : State) : Result := setReg .b1 .b s
/-- `SET 1,C`: R222. -/
def execSet_1_C (s : State) : Result := setReg .b1 .c s
/-- `SET 1,D`: R222. -/
def execSet_1_D (s : State) : Result := setReg .b1 .d s
/-- `SET 1,E`: R222. -/
def execSet_1_E (s : State) : Result := setReg .b1 .e s
/-- `SET 1,H`: R222. -/
def execSet_1_H (s : State) : Result := setReg .b1 .h s
/-- `SET 1,L`: R222. -/
def execSet_1_L (s : State) : Result := setReg .b1 .l s
/-- `SET 1,(HL)`: R223. -/
def execSet_1_mHL (s : State) : Result := setMem .b1 s
/-- `SET 1,A`: R222. -/
def execSet_1_A (s : State) : Result := setReg .b1 .a s
/-- `SET 2,B`: R222. -/
def execSet_2_B (s : State) : Result := setReg .b2 .b s
/-- `SET 2,C`: R222. -/
def execSet_2_C (s : State) : Result := setReg .b2 .c s
/-- `SET 2,D`: R222. -/
def execSet_2_D (s : State) : Result := setReg .b2 .d s
/-- `SET 2,E`: R222. -/
def execSet_2_E (s : State) : Result := setReg .b2 .e s
/-- `SET 2,H`: R222. -/
def execSet_2_H (s : State) : Result := setReg .b2 .h s
/-- `SET 2,L`: R222. -/
def execSet_2_L (s : State) : Result := setReg .b2 .l s
/-- `SET 2,(HL)`: R223. -/
def execSet_2_mHL (s : State) : Result := setMem .b2 s
/-- `SET 2,A`: R222. -/
def execSet_2_A (s : State) : Result := setReg .b2 .a s
/-- `SET 3,B`: R222. -/
def execSet_3_B (s : State) : Result := setReg .b3 .b s
/-- `SET 3,C`: R222. -/
def execSet_3_C (s : State) : Result := setReg .b3 .c s
/-- `SET 3,D`: R222. -/
def execSet_3_D (s : State) : Result := setReg .b3 .d s
/-- `SET 3,E`: R222. -/
def execSet_3_E (s : State) : Result := setReg .b3 .e s
/-- `SET 3,H`: R222. -/
def execSet_3_H (s : State) : Result := setReg .b3 .h s
/-- `SET 3,L`: R222. -/
def execSet_3_L (s : State) : Result := setReg .b3 .l s
/-- `SET 3,(HL)`: R223. -/
def execSet_3_mHL (s : State) : Result := setMem .b3 s
/-- `SET 3,A`: R222. -/
def execSet_3_A (s : State) : Result := setReg .b3 .a s
/-- `SET 4,B`: R222. -/
def execSet_4_B (s : State) : Result := setReg .b4 .b s
/-- `SET 4,C`: R222. -/
def execSet_4_C (s : State) : Result := setReg .b4 .c s
/-- `SET 4,D`: R222. -/
def execSet_4_D (s : State) : Result := setReg .b4 .d s
/-- `SET 4,E`: R222. -/
def execSet_4_E (s : State) : Result := setReg .b4 .e s
/-- `SET 4,H`: R222. -/
def execSet_4_H (s : State) : Result := setReg .b4 .h s
/-- `SET 4,L`: R222. -/
def execSet_4_L (s : State) : Result := setReg .b4 .l s
/-- `SET 4,(HL)`: R223. -/
def execSet_4_mHL (s : State) : Result := setMem .b4 s
/-- `SET 4,A`: R222. -/
def execSet_4_A (s : State) : Result := setReg .b4 .a s
/-- `SET 5,B`: R222. -/
def execSet_5_B (s : State) : Result := setReg .b5 .b s
/-- `SET 5,C`: R222. -/
def execSet_5_C (s : State) : Result := setReg .b5 .c s
/-- `SET 5,D`: R222. -/
def execSet_5_D (s : State) : Result := setReg .b5 .d s
/-- `SET 5,E`: R222. -/
def execSet_5_E (s : State) : Result := setReg .b5 .e s
/-- `SET 5,H`: R222. -/
def execSet_5_H (s : State) : Result := setReg .b5 .h s
/-- `SET 5,L`: R222. -/
def execSet_5_L (s : State) : Result := setReg .b5 .l s
/-- `SET 5,(HL)`: R223. -/
def execSet_5_mHL (s : State) : Result := setMem .b5 s
/-- `SET 5,A`: R222. -/
def execSet_5_A (s : State) : Result := setReg .b5 .a s
/-- `SET 6,B`: R222. -/
def execSet_6_B (s : State) : Result := setReg .b6 .b s
/-- `SET 6,C`: R222. -/
def execSet_6_C (s : State) : Result := setReg .b6 .c s
/-- `SET 6,D`: R222. -/
def execSet_6_D (s : State) : Result := setReg .b6 .d s
/-- `SET 6,E`: R222. -/
def execSet_6_E (s : State) : Result := setReg .b6 .e s
/-- `SET 6,H`: R222. -/
def execSet_6_H (s : State) : Result := setReg .b6 .h s
/-- `SET 6,L`: R222. -/
def execSet_6_L (s : State) : Result := setReg .b6 .l s
/-- `SET 6,(HL)`: R223. -/
def execSet_6_mHL (s : State) : Result := setMem .b6 s
/-- `SET 6,A`: R222. -/
def execSet_6_A (s : State) : Result := setReg .b6 .a s
/-- `SET 7,B`: R222. -/
def execSet_7_B (s : State) : Result := setReg .b7 .b s
/-- `SET 7,C`: R222. -/
def execSet_7_C (s : State) : Result := setReg .b7 .c s
/-- `SET 7,D`: R222. -/
def execSet_7_D (s : State) : Result := setReg .b7 .d s
/-- `SET 7,E`: R222. -/
def execSet_7_E (s : State) : Result := setReg .b7 .e s
/-- `SET 7,H`: R222. -/
def execSet_7_H (s : State) : Result := setReg .b7 .h s
/-- `SET 7,L`: R222. -/
def execSet_7_L (s : State) : Result := setReg .b7 .l s
/-- `SET 7,(HL)`: R223. -/
def execSet_7_mHL (s : State) : Result := setMem .b7 s
/-- `SET 7,A`: R222. -/
def execSet_7_A (s : State) : Result := setReg .b7 .a s

end Sys2Proof.Machine
end

