-- ==== Sys2Proof/Machine/CbShift.lean ====
section
/-! DEFINITION. The secondary space, rotates, shifts and SWAP (spec/46_cb_prefixed.md R200 to R217). The fetch of the
byte 0xCB and of the secondary opcode is the step's; each meaning advances PC by 2. -/

namespace Sys2Proof.Machine

/-- The register form. -/
def shiftReg (k : ShiftKind) (r : Reg8) (s : State) : Result :=
  let out := shiftFlags k (s.getReg r) s.flags
  .next (((s.setReg r out.1).setFlags out.2).advance 2)

/-- The (HL) form: read, then write back, even an unchanged byte (R200). -/
def shiftMem (k : ShiftKind) (s : State) : Result :=
  withMem s fun v =>
    let out := shiftFlags k v s.flags
    memWrite s s.hl out.1 fun s1 => .next ((s1.setFlags out.2).advance 2)

/-- `RLC B`: R202. -/
def execRlc_B (s : State) : Result := shiftReg .rlc .b s
/-- `RLC C`: R202. -/
def execRlc_C (s : State) : Result := shiftReg .rlc .c s
/-- `RLC D`: R202. -/
def execRlc_D (s : State) : Result := shiftReg .rlc .d s
/-- `RLC E`: R202. -/
def execRlc_E (s : State) : Result := shiftReg .rlc .e s
/-- `RLC H`: R202. -/
def execRlc_H (s : State) : Result := shiftReg .rlc .h s
/-- `RLC L`: R202. -/
def execRlc_L (s : State) : Result := shiftReg .rlc .l s
/-- `RLC (HL)`: R203. -/
def execRlc_mHL (s : State) : Result := shiftMem .rlc s
/-- `RLC A`: R202. -/
def execRlc_A (s : State) : Result := shiftReg .rlc .a s
/-- `RRC B`: R204. -/
def execRrc_B (s : State) : Result := shiftReg .rrc .b s
/-- `RRC C`: R204. -/
def execRrc_C (s : State) : Result := shiftReg .rrc .c s
/-- `RRC D`: R204. -/
def execRrc_D (s : State) : Result := shiftReg .rrc .d s
/-- `RRC E`: R204. -/
def execRrc_E (s : State) : Result := shiftReg .rrc .e s
/-- `RRC H`: R204. -/
def execRrc_H (s : State) : Result := shiftReg .rrc .h s
/-- `RRC L`: R204. -/
def execRrc_L (s : State) : Result := shiftReg .rrc .l s
/-- `RRC (HL)`: R205. -/
def execRrc_mHL (s : State) : Result := shiftMem .rrc s
/-- `RRC A`: R204. -/
def execRrc_A (s : State) : Result := shiftReg .rrc .a s
/-- `RL B`: R206. -/
def execRl_B (s : State) : Result := shiftReg .rl .b s
/-- `RL C`: R206. -/
def execRl_C (s : State) : Result := shiftReg .rl .c s
/-- `RL D`: R206. -/
def execRl_D (s : State) : Result := shiftReg .rl .d s
/-- `RL E`: R206. -/
def execRl_E (s : State) : Result := shiftReg .rl .e s
/-- `RL H`: R206. -/
def execRl_H (s : State) : Result := shiftReg .rl .h s
/-- `RL L`: R206. -/
def execRl_L (s : State) : Result := shiftReg .rl .l s
/-- `RL (HL)`: R207. -/
def execRl_mHL (s : State) : Result := shiftMem .rl s
/-- `RL A`: R206. -/
def execRl_A (s : State) : Result := shiftReg .rl .a s
/-- `RR B`: R208. -/
def execRr_B (s : State) : Result := shiftReg .rr .b s
/-- `RR C`: R208. -/
def execRr_C (s : State) : Result := shiftReg .rr .c s
/-- `RR D`: R208. -/
def execRr_D (s : State) : Result := shiftReg .rr .d s
/-- `RR E`: R208. -/
def execRr_E (s : State) : Result := shiftReg .rr .e s
/-- `RR H`: R208. -/
def execRr_H (s : State) : Result := shiftReg .rr .h s
/-- `RR L`: R208. -/
def execRr_L (s : State) : Result := shiftReg .rr .l s
/-- `RR (HL)`: R209. -/
def execRr_mHL (s : State) : Result := shiftMem .rr s
/-- `RR A`: R208. -/
def execRr_A (s : State) : Result := shiftReg .rr .a s
/-- `SLA B`: R210. -/
def execSla_B (s : State) : Result := shiftReg .sla .b s
/-- `SLA C`: R210. -/
def execSla_C (s : State) : Result := shiftReg .sla .c s
/-- `SLA D`: R210. -/
def execSla_D (s : State) : Result := shiftReg .sla .d s
/-- `SLA E`: R210. -/
def execSla_E (s : State) : Result := shiftReg .sla .e s
/-- `SLA H`: R210. -/
def execSla_H (s : State) : Result := shiftReg .sla .h s
/-- `SLA L`: R210. -/
def execSla_L (s : State) : Result := shiftReg .sla .l s
/-- `SLA (HL)`: R211. -/
def execSla_mHL (s : State) : Result := shiftMem .sla s
/-- `SLA A`: R210. -/
def execSla_A (s : State) : Result := shiftReg .sla .a s
/-- `SRA B`: R212. -/
def execSra_B (s : State) : Result := shiftReg .sra .b s
/-- `SRA C`: R212. -/
def execSra_C (s : State) : Result := shiftReg .sra .c s
/-- `SRA D`: R212. -/
def execSra_D (s : State) : Result := shiftReg .sra .d s
/-- `SRA E`: R212. -/
def execSra_E (s : State) : Result := shiftReg .sra .e s
/-- `SRA H`: R212. -/
def execSra_H (s : State) : Result := shiftReg .sra .h s
/-- `SRA L`: R212. -/
def execSra_L (s : State) : Result := shiftReg .sra .l s
/-- `SRA (HL)`: R213. -/
def execSra_mHL (s : State) : Result := shiftMem .sra s
/-- `SRA A`: R212. -/
def execSra_A (s : State) : Result := shiftReg .sra .a s
/-- `SWAP B`: R214. -/
def execSwap_B (s : State) : Result := shiftReg .swap .b s
/-- `SWAP C`: R214. -/
def execSwap_C (s : State) : Result := shiftReg .swap .c s
/-- `SWAP D`: R214. -/
def execSwap_D (s : State) : Result := shiftReg .swap .d s
/-- `SWAP E`: R214. -/
def execSwap_E (s : State) : Result := shiftReg .swap .e s
/-- `SWAP H`: R214. -/
def execSwap_H (s : State) : Result := shiftReg .swap .h s
/-- `SWAP L`: R214. -/
def execSwap_L (s : State) : Result := shiftReg .swap .l s
/-- `SWAP (HL)`: R215. -/
def execSwap_mHL (s : State) : Result := shiftMem .swap s
/-- `SWAP A`: R214. -/
def execSwap_A (s : State) : Result := shiftReg .swap .a s
/-- `SRL B`: R216. -/
def execSrl_B (s : State) : Result := shiftReg .srl .b s
/-- `SRL C`: R216. -/
def execSrl_C (s : State) : Result := shiftReg .srl .c s
/-- `SRL D`: R216. -/
def execSrl_D (s : State) : Result := shiftReg .srl .d s
/-- `SRL E`: R216. -/
def execSrl_E (s : State) : Result := shiftReg .srl .e s
/-- `SRL H`: R216. -/
def execSrl_H (s : State) : Result := shiftReg .srl .h s
/-- `SRL L`: R216. -/
def execSrl_L (s : State) : Result := shiftReg .srl .l s
/-- `SRL (HL)`: R217. -/
def execSrl_mHL (s : State) : Result := shiftMem .srl s
/-- `SRL A`: R216. -/
def execSrl_A (s : State) : Result := shiftReg .srl .a s

end Sys2Proof.Machine
end

