-- ==== Sys2Proof/Machine/IncDec.lean ====
section
/-! DEFINITION. ADD HL,rr and the 8-bit and 16-bit increments and decrements (spec/41_add16_incdec.md R140 to R150). -/

namespace Sys2Proof.Machine

/-- R141, R142: Z is kept. -/
def addHl (p : PairSel) (s : State) : Result :=
  let out := add16 s.hl (s.getSel p)
  .next (((s.setPair .hl out.1).setFlags { z := s.flags.z, n := false, h := out.2.1, c := out.2.2 }).advance 1)

/-- R143. -/
def incReg (r : Reg8) (s : State) : Result :=
  let out := inc8 (s.getReg r) s.flags
  .next (((s.setReg r out.1).setFlags out.2).advance 1)

/-- R144. -/
def incMem (s : State) : Result :=
  withMem s fun v =>
    let out := inc8 v s.flags
    memWrite s s.hl out.1 fun s1 => .next ((s1.setFlags out.2).advance 1)

/-- R145. -/
def decReg (r : Reg8) (s : State) : Result :=
  let out := dec8 (s.getReg r) s.flags
  .next (((s.setReg r out.1).setFlags out.2).advance 1)

/-- R146. -/
def decMem (s : State) : Result :=
  withMem s fun v =>
    let out := dec8 v s.flags
    memWrite s s.hl out.1 fun s1 => .next ((s1.setFlags out.2).advance 1)

/-- R147, R148. -/
def inc16 (p : PairSel) (s : State) : Result := .next ((s.setSel p (s.getSel p + 1)).advance 1)

/-- R149, R150. -/
def dec16 (p : PairSel) (s : State) : Result := .next ((s.setSel p (s.getSel p - 1)).advance 1)

/-- `INC BC`: R147. -/
def execInc_BC (s : State) : Result := inc16 .bc s
/-- `INC B`: R143. -/
def execInc_B (s : State) : Result := incReg .b s
/-- `DEC B`: R145. -/
def execDec_B (s : State) : Result := decReg .b s
/-- `ADD HL,BC`: R141. -/
def execAdd_HL_BC (s : State) : Result := addHl .bc s
/-- `DEC BC`: R149. -/
def execDec_BC (s : State) : Result := dec16 .bc s
/-- `INC C`: R143. -/
def execInc_C (s : State) : Result := incReg .c s
/-- `DEC C`: R145. -/
def execDec_C (s : State) : Result := decReg .c s
/-- `INC DE`: R147. -/
def execInc_DE (s : State) : Result := inc16 .de s
/-- `INC D`: R143. -/
def execInc_D (s : State) : Result := incReg .d s
/-- `DEC D`: R145. -/
def execDec_D (s : State) : Result := decReg .d s
/-- `ADD HL,DE`: R141. -/
def execAdd_HL_DE (s : State) : Result := addHl .de s
/-- `DEC DE`: R149. -/
def execDec_DE (s : State) : Result := dec16 .de s
/-- `INC E`: R143. -/
def execInc_E (s : State) : Result := incReg .e s
/-- `DEC E`: R145. -/
def execDec_E (s : State) : Result := decReg .e s
/-- `INC HL`: R147. -/
def execInc_HL (s : State) : Result := inc16 .hl s
/-- `INC H`: R143. -/
def execInc_H (s : State) : Result := incReg .h s
/-- `DEC H`: R145. -/
def execDec_H (s : State) : Result := decReg .h s
/-- `ADD HL,HL`: R141. -/
def execAdd_HL_HL (s : State) : Result := addHl .hl s
/-- `DEC HL`: R149. -/
def execDec_HL (s : State) : Result := dec16 .hl s
/-- `INC L`: R143. -/
def execInc_L (s : State) : Result := incReg .l s
/-- `DEC L`: R145. -/
def execDec_L (s : State) : Result := decReg .l s
/-- `INC SP`: R148. -/
def execInc_SP (s : State) : Result := inc16 .sp s
/-- `INC (HL)`: R144. -/
def execInc_mHL (s : State) : Result := incMem s
/-- `DEC (HL)`: R146. -/
def execDec_mHL (s : State) : Result := decMem s
/-- `ADD HL,SP`: R142. -/
def execAdd_HL_SP (s : State) : Result := addHl .sp s
/-- `DEC SP`: R150. -/
def execDec_SP (s : State) : Result := dec16 .sp s
/-- `INC A`: R143. -/
def execInc_A (s : State) : Result := incReg .a s
/-- `DEC A`: R145. -/
def execDec_A (s : State) : Result := decReg .a s

end Sys2Proof.Machine
end

