-- ==== Sys2Proof/Machine/Load.lean ====
section
/-! DEFINITION. The byte loads (spec/43_load.md R175 to R180). -/

namespace Sys2Proof.Machine

/-- R175. -/
def ldReg (dst r : Reg8) (s : State) : Result := .next ((s.setReg dst (s.getReg r)).advance 1)

/-- R176. -/
def ldImm (dst : Reg8) (s : State) : Result := withImm s fun v => .next ((s.setReg dst v).advance 2)

/-- R177. -/
def ldMem (dst : Reg8) (s : State) : Result := withMem s fun v => .next ((s.setReg dst v).advance 1)

/-- R178. -/
def stReg (r : Reg8) (s : State) : Result := memWrite s s.hl (s.getReg r) fun s1 => .next (s1.advance 1)

/-- R179. -/
def stImm (s : State) : Result := withImm s fun v => memWrite s s.hl v fun s1 => .next (s1.advance 2)

/-- `LD B,n`: R176. -/
def execLd_B_n (s : State) : Result := ldImm .b s
/-- `LD C,n`: R176. -/
def execLd_C_n (s : State) : Result := ldImm .c s
/-- `LD D,n`: R176. -/
def execLd_D_n (s : State) : Result := ldImm .d s
/-- `LD E,n`: R176. -/
def execLd_E_n (s : State) : Result := ldImm .e s
/-- `LD H,n`: R176. -/
def execLd_H_n (s : State) : Result := ldImm .h s
/-- `LD L,n`: R176. -/
def execLd_L_n (s : State) : Result := ldImm .l s
/-- `LD (HL),n`: R179. -/
def execLd_mHL_n (s : State) : Result := stImm s
/-- `LD A,n`: R176. -/
def execLd_A_n (s : State) : Result := ldImm .a s
/-- `LD B,B`: R175. -/
def execLd_B_B (s : State) : Result := ldReg .b .b s
/-- `LD B,C`: R175. -/
def execLd_B_C (s : State) : Result := ldReg .b .c s
/-- `LD B,D`: R175. -/
def execLd_B_D (s : State) : Result := ldReg .b .d s
/-- `LD B,E`: R175. -/
def execLd_B_E (s : State) : Result := ldReg .b .e s
/-- `LD B,H`: R175. -/
def execLd_B_H (s : State) : Result := ldReg .b .h s
/-- `LD B,L`: R175. -/
def execLd_B_L (s : State) : Result := ldReg .b .l s
/-- `LD B,(HL)`: R177. -/
def execLd_B_mHL (s : State) : Result := ldMem .b s
/-- `LD B,A`: R175. -/
def execLd_B_A (s : State) : Result := ldReg .b .a s
/-- `LD C,B`: R175. -/
def execLd_C_B (s : State) : Result := ldReg .c .b s
/-- `LD C,C`: R175. -/
def execLd_C_C (s : State) : Result := ldReg .c .c s
/-- `LD C,D`: R175. -/
def execLd_C_D (s : State) : Result := ldReg .c .d s
/-- `LD C,E`: R175. -/
def execLd_C_E (s : State) : Result := ldReg .c .e s
/-- `LD C,H`: R175. -/
def execLd_C_H (s : State) : Result := ldReg .c .h s
/-- `LD C,L`: R175. -/
def execLd_C_L (s : State) : Result := ldReg .c .l s
/-- `LD C,(HL)`: R177. -/
def execLd_C_mHL (s : State) : Result := ldMem .c s
/-- `LD C,A`: R175. -/
def execLd_C_A (s : State) : Result := ldReg .c .a s
/-- `LD D,B`: R175. -/
def execLd_D_B (s : State) : Result := ldReg .d .b s
/-- `LD D,C`: R175. -/
def execLd_D_C (s : State) : Result := ldReg .d .c s
/-- `LD D,D`: R175. -/
def execLd_D_D (s : State) : Result := ldReg .d .d s
/-- `LD D,E`: R175. -/
def execLd_D_E (s : State) : Result := ldReg .d .e s
/-- `LD D,H`: R175. -/
def execLd_D_H (s : State) : Result := ldReg .d .h s
/-- `LD D,L`: R175. -/
def execLd_D_L (s : State) : Result := ldReg .d .l s
/-- `LD D,(HL)`: R177. -/
def execLd_D_mHL (s : State) : Result := ldMem .d s
/-- `LD D,A`: R175. -/
def execLd_D_A (s : State) : Result := ldReg .d .a s
/-- `LD E,B`: R175. -/
def execLd_E_B (s : State) : Result := ldReg .e .b s
/-- `LD E,C`: R175. -/
def execLd_E_C (s : State) : Result := ldReg .e .c s
/-- `LD E,D`: R175. -/
def execLd_E_D (s : State) : Result := ldReg .e .d s
/-- `LD E,E`: R175. -/
def execLd_E_E (s : State) : Result := ldReg .e .e s
/-- `LD E,H`: R175. -/
def execLd_E_H (s : State) : Result := ldReg .e .h s
/-- `LD E,L`: R175. -/
def execLd_E_L (s : State) : Result := ldReg .e .l s
/-- `LD E,(HL)`: R177. -/
def execLd_E_mHL (s : State) : Result := ldMem .e s
/-- `LD E,A`: R175. -/
def execLd_E_A (s : State) : Result := ldReg .e .a s
/-- `LD H,B`: R175. -/
def execLd_H_B (s : State) : Result := ldReg .h .b s
/-- `LD H,C`: R175. -/
def execLd_H_C (s : State) : Result := ldReg .h .c s
/-- `LD H,D`: R175. -/
def execLd_H_D (s : State) : Result := ldReg .h .d s
/-- `LD H,E`: R175. -/
def execLd_H_E (s : State) : Result := ldReg .h .e s
/-- `LD H,H`: R175. -/
def execLd_H_H (s : State) : Result := ldReg .h .h s
/-- `LD H,L`: R175. -/
def execLd_H_L (s : State) : Result := ldReg .h .l s
/-- `LD H,(HL)`: R177. -/
def execLd_H_mHL (s : State) : Result := ldMem .h s
/-- `LD H,A`: R175. -/
def execLd_H_A (s : State) : Result := ldReg .h .a s
/-- `LD L,B`: R175. -/
def execLd_L_B (s : State) : Result := ldReg .l .b s
/-- `LD L,C`: R175. -/
def execLd_L_C (s : State) : Result := ldReg .l .c s
/-- `LD L,D`: R175. -/
def execLd_L_D (s : State) : Result := ldReg .l .d s
/-- `LD L,E`: R175. -/
def execLd_L_E (s : State) : Result := ldReg .l .e s
/-- `LD L,H`: R175. -/
def execLd_L_H (s : State) : Result := ldReg .l .h s
/-- `LD L,L`: R175. -/
def execLd_L_L (s : State) : Result := ldReg .l .l s
/-- `LD L,(HL)`: R177. -/
def execLd_L_mHL (s : State) : Result := ldMem .l s
/-- `LD L,A`: R175. -/
def execLd_L_A (s : State) : Result := ldReg .l .a s
/-- `LD (HL),B`: R178. -/
def execLd_mHL_B (s : State) : Result := stReg .b s
/-- `LD (HL),C`: R178. -/
def execLd_mHL_C (s : State) : Result := stReg .c s
/-- `LD (HL),D`: R178. -/
def execLd_mHL_D (s : State) : Result := stReg .d s
/-- `LD (HL),E`: R178. -/
def execLd_mHL_E (s : State) : Result := stReg .e s
/-- `LD (HL),H`: R178. -/
def execLd_mHL_H (s : State) : Result := stReg .h s
/-- `LD (HL),L`: R178. -/
def execLd_mHL_L (s : State) : Result := stReg .l s
/-- `LD (HL),A`: R178. -/
def execLd_mHL_A (s : State) : Result := stReg .a s
/-- `LD A,B`: R175. -/
def execLd_A_B (s : State) : Result := ldReg .a .b s
/-- `LD A,C`: R175. -/
def execLd_A_C (s : State) : Result := ldReg .a .c s
/-- `LD A,D`: R175. -/
def execLd_A_D (s : State) : Result := ldReg .a .d s
/-- `LD A,E`: R175. -/
def execLd_A_E (s : State) : Result := ldReg .a .e s
/-- `LD A,H`: R175. -/
def execLd_A_H (s : State) : Result := ldReg .a .h s
/-- `LD A,L`: R175. -/
def execLd_A_L (s : State) : Result := ldReg .a .l s
/-- `LD A,(HL)`: R177. -/
def execLd_A_mHL (s : State) : Result := ldMem .a s
/-- `LD A,A`: R175. -/
def execLd_A_A (s : State) : Result := ldReg .a .a s

end Sys2Proof.Machine
end

