-- ==== Sys2Proof/Machine/Misc.lean ====
section
/-! DEFINITION. NOP and HALT (spec/44_misc.md R185, R186). -/

namespace Sys2Proof.Machine

/-- R185. -/
def nop (s : State) : Result := .next (s.advance 1)

/-- R186: HALT sets the halted flag and advances PC by its own width. -/
def halt (s : State) : Result := .next ({ s with halted := true }.advance 1)

/-- `NOP`: R185. -/
def execNop (s : State) : Result := nop s
/-- `HALT`: R186. -/
def execHalt (s : State) : Result := halt s

end Sys2Proof.Machine
end

