-- ==== Sys2Proof/Machine/RotateA.lean ====
section
/-! DEFINITION. The accumulator rotates (spec/45_rotate_a.md R190 to R193). -/

namespace Sys2Proof.Machine

/-- The accumulator and the flags after rotate `k`. -/
def rotateA (k : RotA) (s : State) : Result :=
  let out := rotA8 k s.a s.flags
  .next (((s.setReg .a out.1).setFlags out.2).advance 1)

/-- `RLCA`: R190. -/
def execRlca (s : State) : Result := rotateA .rlca s
/-- `RRCA`: R191. -/
def execRrca (s : State) : Result := rotateA .rrca s
/-- `RLA`: R192. -/
def execRla (s : State) : Result := rotateA .rla s
/-- `RRA`: R193. -/
def execRra (s : State) : Result := rotateA .rra s

end Sys2Proof.Machine
end

