-- ==== Sys2Proof/Machine/StackControl.lean ====
section
/-! DEFINITION. PUSH and POP, JP, CALL and RET (spec/42_stack_control.md R155 to R169). -/

namespace Sys2Proof.Machine

/-- R158, R159. -/
def push (p : PairView) (s : State) : Result := push16 s (s.getPair p) fun s1 => .next (s1.advance 1)

/-- R160, R161. -/
def pop (p : PairView) (s : State) : Result := pop16 s fun v s1 => .next ((s1.setPair p v).advance 1)

/-- R162. -/
def jump (s : State) : Result := withImm16 s fun target => .next (s.setPc target)

/-- R163: the operand of a jump not taken is not read. -/
def jumpIf (cc : Cond) (s : State) : Result := if condHolds cc s.flags then jump s else .next (s.advance 3)

/-- R164: the push comes first, the operand is read after it. -/
def call (s : State) : Result :=
  push16 s (s.pc + 3) fun s1 => withImm16 s1 fun target => .next (s1.setPc target)

/-- R165. -/
def callIf (cc : Cond) (s : State) : Result := if condHolds cc s.flags then call s else .next (s.advance 3)

/-- R166. -/
def ret (s : State) : Result := pop16 s fun target s1 => .next (s1.setPc target)

/-- R167. -/
def retIf (cc : Cond) (s : State) : Result := if condHolds cc s.flags then ret s else .next (s.advance 1)

/-- `RET NZ`: R167. -/
def execRet_NZ (s : State) : Result := retIf .nz s
/-- `POP BC`: R160. -/
def execPop_BC (s : State) : Result := pop .bc s
/-- `JP NZ,nn`: R163. -/
def execJp_NZ_nn (s : State) : Result := jumpIf .nz s
/-- `JP nn`: R162. -/
def execJp_nn (s : State) : Result := jump s
/-- `CALL NZ,nn`: R165. -/
def execCall_NZ_nn (s : State) : Result := callIf .nz s
/-- `PUSH BC`: R158. -/
def execPush_BC (s : State) : Result := push .bc s
/-- `RET Z`: R167. -/
def execRet_Z (s : State) : Result := retIf .z s
/-- `RET`: R166. -/
def execRet (s : State) : Result := ret s
/-- `JP Z,nn`: R163. -/
def execJp_Z_nn (s : State) : Result := jumpIf .z s
/-- `CALL Z,nn`: R165. -/
def execCall_Z_nn (s : State) : Result := callIf .z s
/-- `CALL nn`: R164. -/
def execCall_nn (s : State) : Result := call s
/-- `RET NC`: R167. -/
def execRet_NC (s : State) : Result := retIf .nc s
/-- `POP DE`: R160. -/
def execPop_DE (s : State) : Result := pop .de s
/-- `JP NC,nn`: R163. -/
def execJp_NC_nn (s : State) : Result := jumpIf .nc s
/-- `CALL NC,nn`: R165. -/
def execCall_NC_nn (s : State) : Result := callIf .nc s
/-- `PUSH DE`: R158. -/
def execPush_DE (s : State) : Result := push .de s
/-- `RET C`: R167. -/
def execRet_C (s : State) : Result := retIf .c s
/-- `JP C,nn`: R163. -/
def execJp_C_nn (s : State) : Result := jumpIf .c s
/-- `CALL C,nn`: R165. -/
def execCall_C_nn (s : State) : Result := callIf .c s
/-- `POP HL`: R160. -/
def execPop_HL (s : State) : Result := pop .hl s
/-- `PUSH HL`: R158. -/
def execPush_HL (s : State) : Result := push .hl s
/-- `POP AF`: R161. -/
def execPop_AF (s : State) : Result := pop .af s
/-- `PUSH AF`: R159. -/
def execPush_AF (s : State) : Result := push .af s

end Sys2Proof.Machine
end

