-- ==== Sys2Proof/Machine/Unrecognized.lean ====
section
/-! DEFINITION. The rows of the opcode table that are no instructions of R90: the byte 0xCB (spec/30_encoding.md R101 to
R103) and the 55 unrecognized bytes (R98, spec/60_exceptions.md R252). -/

namespace Sys2Proof.Machine

/-- The meaning of a secondary-space byte (R95). -/
def runCb (op2 : Byte) (s : State) : Result :=
  let y := op2.toNat / 8 % 8
  match op2.toNat / 64, regOf (op2.toNat % 8) with
  | 0, some r => shiftReg (shiftKindOf y) r s
  | 0, none => shiftMem (shiftKindOf y) s
  | 1, some r => bitReg (bitIdxOf y) r s
  | 1, none => bitMem (bitIdxOf y) s
  | 2, some r => resReg (bitIdxOf y) r s
  | 2, none => resMem (bitIdxOf y) s
  | _, some r => setReg (bitIdxOf y) r s
  | _, none => setMem (bitIdxOf y) s

/-- The row of the byte 0xCB: the following byte is fetched and decoded against the secondary table, and its instruction
runs in the same step (R101, R102). -/
def prefixByte (s : State) : Result := memRead s (s.pc + 1) .fetch fun op2 => runCb op2 s

/-- `(unrecognized 0x01)`: R98. -/
def execUnrecognized_01 (s : State) : Result := undefinedOpcode 0x01 s
/-- `(unrecognized 0x02)`: R98. -/
def execUnrecognized_02 (s : State) : Result := undefinedOpcode 0x02 s
/-- `(unrecognized 0x08)`: R98. -/
def execUnrecognized_08 (s : State) : Result := undefinedOpcode 0x08 s
/-- `(unrecognized 0x0A)`: R98. -/
def execUnrecognized_0A (s : State) : Result := undefinedOpcode 0x0A s
/-- `(unrecognized 0x10)`: R98. -/
def execUnrecognized_10 (s : State) : Result := undefinedOpcode 0x10 s
/-- `(unrecognized 0x11)`: R98. -/
def execUnrecognized_11 (s : State) : Result := undefinedOpcode 0x11 s
/-- `(unrecognized 0x12)`: R98. -/
def execUnrecognized_12 (s : State) : Result := undefinedOpcode 0x12 s
/-- `(unrecognized 0x18)`: R98. -/
def execUnrecognized_18 (s : State) : Result := undefinedOpcode 0x18 s
/-- `(unrecognized 0x1A)`: R98. -/
def execUnrecognized_1A (s : State) : Result := undefinedOpcode 0x1A s
/-- `(unrecognized 0x20)`: R98. -/
def execUnrecognized_20 (s : State) : Result := undefinedOpcode 0x20 s
/-- `(unrecognized 0x21)`: R98. -/
def execUnrecognized_21 (s : State) : Result := undefinedOpcode 0x21 s
/-- `(unrecognized 0x22)`: R98. -/
def execUnrecognized_22 (s : State) : Result := undefinedOpcode 0x22 s
/-- `(unrecognized 0x27)`: R98. -/
def execUnrecognized_27 (s : State) : Result := undefinedOpcode 0x27 s
/-- `(unrecognized 0x28)`: R98. -/
def execUnrecognized_28 (s : State) : Result := undefinedOpcode 0x28 s
/-- `(unrecognized 0x2A)`: R98. -/
def execUnrecognized_2A (s : State) : Result := undefinedOpcode 0x2A s
/-- `(unrecognized 0x2F)`: R98. -/
def execUnrecognized_2F (s : State) : Result := undefinedOpcode 0x2F s
/-- `(unrecognized 0x30)`: R98. -/
def execUnrecognized_30 (s : State) : Result := undefinedOpcode 0x30 s
/-- `(unrecognized 0x31)`: R98. -/
def execUnrecognized_31 (s : State) : Result := undefinedOpcode 0x31 s
/-- `(unrecognized 0x32)`: R98. -/
def execUnrecognized_32 (s : State) : Result := undefinedOpcode 0x32 s
/-- `(unrecognized 0x37)`: R98. -/
def execUnrecognized_37 (s : State) : Result := undefinedOpcode 0x37 s
/-- `(unrecognized 0x38)`: R98. -/
def execUnrecognized_38 (s : State) : Result := undefinedOpcode 0x38 s
/-- `(unrecognized 0x3A)`: R98. -/
def execUnrecognized_3A (s : State) : Result := undefinedOpcode 0x3A s
/-- `(unrecognized 0x3F)`: R98. -/
def execUnrecognized_3F (s : State) : Result := undefinedOpcode 0x3F s
/-- `(unrecognized 0xC7)`: R98. -/
def execUnrecognized_C7 (s : State) : Result := undefinedOpcode 0xC7 s
/-- `(prefix 0xCB)`: R101. -/
def execPrefix_CB (s : State) : Result := prefixByte s
/-- `(unrecognized 0xCF)`: R98. -/
def execUnrecognized_CF (s : State) : Result := undefinedOpcode 0xCF s
/-- `(unrecognized 0xD3)`: R98. -/
def execUnrecognized_D3 (s : State) : Result := undefinedOpcode 0xD3 s
/-- `(unrecognized 0xD7)`: R98. -/
def execUnrecognized_D7 (s : State) : Result := undefinedOpcode 0xD7 s
/-- `(unrecognized 0xD9)`: R98. -/
def execUnrecognized_D9 (s : State) : Result := undefinedOpcode 0xD9 s
/-- `(unrecognized 0xDB)`: R98. -/
def execUnrecognized_DB (s : State) : Result := undefinedOpcode 0xDB s
/-- `(unrecognized 0xDD)`: R98. -/
def execUnrecognized_DD (s : State) : Result := undefinedOpcode 0xDD s
/-- `(unrecognized 0xDF)`: R98. -/
def execUnrecognized_DF (s : State) : Result := undefinedOpcode 0xDF s
/-- `(unrecognized 0xE0)`: R98. -/
def execUnrecognized_E0 (s : State) : Result := undefinedOpcode 0xE0 s
/-- `(unrecognized 0xE2)`: R98. -/
def execUnrecognized_E2 (s : State) : Result := undefinedOpcode 0xE2 s
/-- `(unrecognized 0xE3)`: R98. -/
def execUnrecognized_E3 (s : State) : Result := undefinedOpcode 0xE3 s
/-- `(unrecognized 0xE4)`: R98. -/
def execUnrecognized_E4 (s : State) : Result := undefinedOpcode 0xE4 s
/-- `(unrecognized 0xE7)`: R98. -/
def execUnrecognized_E7 (s : State) : Result := undefinedOpcode 0xE7 s
/-- `(unrecognized 0xE8)`: R98. -/
def execUnrecognized_E8 (s : State) : Result := undefinedOpcode 0xE8 s
/-- `(unrecognized 0xE9)`: R98. -/
def execUnrecognized_E9 (s : State) : Result := undefinedOpcode 0xE9 s
/-- `(unrecognized 0xEA)`: R98. -/
def execUnrecognized_EA (s : State) : Result := undefinedOpcode 0xEA s
/-- `(unrecognized 0xEB)`: R98. -/
def execUnrecognized_EB (s : State) : Result := undefinedOpcode 0xEB s
/-- `(unrecognized 0xEC)`: R98. -/
def execUnrecognized_EC (s : State) : Result := undefinedOpcode 0xEC s
/-- `(unrecognized 0xED)`: R98. -/
def execUnrecognized_ED (s : State) : Result := undefinedOpcode 0xED s
/-- `(unrecognized 0xEF)`: R98. -/
def execUnrecognized_EF (s : State) : Result := undefinedOpcode 0xEF s
/-- `(unrecognized 0xF0)`: R98. -/
def execUnrecognized_F0 (s : State) : Result := undefinedOpcode 0xF0 s
/-- `(unrecognized 0xF2)`: R98. -/
def execUnrecognized_F2 (s : State) : Result := undefinedOpcode 0xF2 s
/-- `(unrecognized 0xF3)`: R98. -/
def execUnrecognized_F3 (s : State) : Result := undefinedOpcode 0xF3 s
/-- `(unrecognized 0xF4)`: R98. -/
def execUnrecognized_F4 (s : State) : Result := undefinedOpcode 0xF4 s
/-- `(unrecognized 0xF7)`: R98. -/
def execUnrecognized_F7 (s : State) : Result := undefinedOpcode 0xF7 s
/-- `(unrecognized 0xF8)`: R98. -/
def execUnrecognized_F8 (s : State) : Result := undefinedOpcode 0xF8 s
/-- `(unrecognized 0xF9)`: R98. -/
def execUnrecognized_F9 (s : State) : Result := undefinedOpcode 0xF9 s
/-- `(unrecognized 0xFA)`: R98. -/
def execUnrecognized_FA (s : State) : Result := undefinedOpcode 0xFA s
/-- `(unrecognized 0xFB)`: R98. -/
def execUnrecognized_FB (s : State) : Result := undefinedOpcode 0xFB s
/-- `(unrecognized 0xFC)`: R98. -/
def execUnrecognized_FC (s : State) : Result := undefinedOpcode 0xFC s
/-- `(unrecognized 0xFD)`: R98. -/
def execUnrecognized_FD (s : State) : Result := undefinedOpcode 0xFD s
/-- `(unrecognized 0xFF)`: R98. -/
def execUnrecognized_FF (s : State) : Result := undefinedOpcode 0xFF s

end Sys2Proof.Machine
end

