-- ==== Sys2Proof/Machine/Step.lean ====
section
/-! DEFINITION. One step of the machine, and the placing of one instruction where the next step fetches
(spec/60_exceptions.md R250). Both only call operations of Machine/Ops.lean. -/

namespace Sys2Proof.Machine

/-- `Step()` of R250: the faulted test, the halted test, the fetch, the decoder, the instruction's own pseudocode. -/
def step (s : State) : Host.Outcome State Fault Refusal :=
  whenRunning s (fetchInstr s fun i => exec i s)

/-- The machine with the instruction whose bits are `w` stored at PC, so that the next step fetches and runs it. -/
def State.withFetchWord (s : State) (nbits w : Nat) : State := s.placeInstr (tableBytes nbits w)

end Sys2Proof.Machine
end

