-- ==== Sys2Proof/Machine/Core.lean ====
section
/-! DEFINITION. The machine behind the host's interface. -/

/-- DESIGN CHOICE, unsafe (log 11): a run of this machine through the interface calls `step` again and again from a given
state. That the host writes nothing between two steps is a LAUNCH PREMISE of every claim about such a run, as
spec/60_exceptions.md R267 asks to be stated; `Sys2Proof.Machine.hostRun` has the runs in which the host does. -/
def Sys2Proof.core : Host.Core :=
  { State := Sys2Proof.Machine.State, Fault := Sys2Proof.Machine.Fault, Refusal := Sys2Proof.Machine.Refusal,
    step := Sys2Proof.Machine.step, reset := Sys2Proof.Machine.State.reset }
end

