-- ==== Sys2Proof/WellFormed.lean ====
section
/-! DEFINITION. Which rows of the opcode table are legal instruction values (spec/30_encoding.md R90, R98, R102,
spec/60_exceptions.md R263: "there is no value for unrecognized"). -/

namespace Sys2Proof

/-- The row is an instruction, not one of the 55 unrecognized bytes (R98). -/
def Instr.recognized (i : Instr) : Bool := !i.isUnrecognized

/-- The row is not the byte 0xCB by itself: the byte is no instruction (R102). -/
def Instr.whole (i : Instr) : Bool := i != .prefix_CB

/-- The row is an instruction of the closed set R90. -/
def Instr.wellFormed (i : Instr) : Bool := i.recognized && i.whole

end Sys2Proof
end

