-- ==== Sys2Proof/Machine/HostPort.lean ====
section
/-! DEFINITION. The host's interface, between steps (spec/60_exceptions.md R262 to R267, spec/50_video_device.md R231,
R243, spec/70_reset_and_hazards.md R280). An action the spec refuses answers a refusal and has no effect. -/

namespace Sys2Proof.Machine

/-- What the host may do between steps (R267). `step` and `execute` are one action each: only one runs at a time. -/
inductive HostAction where
  | step
  | execute (i : Instr)
  | reset
  | resume
  | writeReg (r : Reg8) (v : Byte)
  | writeFlags (f : Flags)
  | writeF (v : Byte)
  | writePair (p : PairView) (v : Word)
  | writePc (v : Word)
  | writeSp (v : Word)
  | writeHalted (v : Bool)
  | videoWrite (o : Nat) (v : Byte)
  | memWrite (x : Word) (v : Byte)
deriving DecidableEq, Repr

/-- Reset (R280): every register, flag and latch and the video device return to their reset values. The parameters stay,
and the host-owned region is not touched by a reset after the first. -/
def State.resetAgain (s : State) : State := State.boot s.params s.hostMem

/-- The value is an instruction of the set `Execute` takes (R263: "there is no value for unrecognized"): not an
unrecognized byte and not the byte 0xCB by itself (R98, R102), and not of a family that UNSPEC_FAMILIES = refuse makes
unrecognized (R98). -/
def State.admits (s : State) (i : Instr) : Bool := i.wellFormed && !(encode i).head?.any s.refusesByte

/-- `Execute(instr)` (R263): the pseudocode of the instruction's rule in the current state, without a fetch. A value that
is no instruction of the set is inert (93_implementation_defined.md U15), whatever UNDEF_POLICY is, since UndefinedOpcode
is raised by an opcode fetch alone (R253; log 10). -/
def hostExecute (i : Instr) (s : State) : Result := whenRunning s (if s.admits i then exec i s else .next s)

/-- `Resume` (R261). -/
def hostResume (s : State) : Result :=
  match s.params.hostResume with
  | .present => .next { s with halted := false }
  | .absent => .refused .resumeAbsent

/-- The host's write of the halted flag (R264), which the spec's decision D16 allows under HOST_RESUME = present alone. -/
def hostWriteHalted (v : Bool) (s : State) : Result :=
  match s.params.hostResume with
  | .present => .next { s with halted := v }
  | .absent => .refused .haltedNotWritable

/-- The host's write to video memory (R231): the device's own write, which also recomputes the tile row. -/
def hostVideoWrite (o : Nat) (v : Byte) (s : State) : Result :=
  if o ≤ 0x1FFF then .next (s.videoWrite o v) else .refused (.videoOffset o)

/-- The host's read of video memory (R231); `none` where the offset is refused. -/
def hostVideoRead (s : State) (o : Nat) : Option Byte := if o ≤ 0x1FFF then some (s.videoRead o) else none

/-- The host's tile port (R243): pixel `c` of row `r` of tile `t`. -/
def hostTileRead (s : State) (t : Fin 384) (r c : Fin 8) : BitVec 2 := (s.tileRowAt t.val r.val).pixel c

/-- The host's write to the host-owned region (R266). -/
def hostMemWrite (x : Word) (v : Byte) (s : State) : Result :=
  if hostOwns s.params x then .next (s.storeByte x v) else .refused (.notHostOwned x)

/-- The host's read of the host-owned region (R266); `none` where the host does not own the address. -/
def hostMemRead (s : State) (x : Word) : Option Byte := if hostOwns s.params x then some (s.byteAt x) else none

/-- One action of the host. -/
def hostAct (act : HostAction) (s : State) : Result :=
  match act with
  | .step => step s
  | .execute i => hostExecute i s
  | .reset => .next s.resetAgain
  | .resume => hostResume s
  | .writeReg r v => .next (s.setReg r v)
  | .writeFlags f => .next (s.setFlags f)
  | .writeF v => .next (s.setFlags (flagsOfByte v))
  | .writePair p v => .next (s.setPair p v)
  | .writePc v => .next (s.setPc v)
  | .writeSp v => .next (s.setSp v)
  | .writeHalted v => hostWriteHalted v s
  | .videoWrite o v => hostVideoWrite o v s
  | .memWrite x v => hostMemWrite x v s

/-- The machine the host is left with after an outcome. A BusFault sets the faulted latch, and everything else is then
ANY VALUE (R251, 93_implementation_defined.md U3): `left` is that free value, an argument nothing constrains, of which the
parameters alone, which stay fixed, are replaced. So the host's memory that a later reset leaves in place (R280) is free
too. An UndefinedOpcode under UNDEF_POLICY = fatal sets the latch and writes nothing (R252, vector V-UND-2). Where no step
is taken, and after a refusal, the machine is as it was. -/
def afterOutcome (left s : State) (out : Result) : State :=
  match out with
  | .next s1 => s1
  | .fault (.busFault _ _) => { left with faulted := true, params := s.params }
  | .fault (.undefinedOpcode _ _) => { s with faulted := true }
  | .fault .machineFaulted => s
  | .refused _ => s

/-- One action of the host with what it leaves behind. -/
def hostTurn (left : State) (act : HostAction) (s : State) : State := afterOutcome left s (hostAct act s)

/-- One call of Step by the host's driver loop (R262). -/
def drive (left s : State) : State := hostTurn left .step s

/-- The machine after any sequence of host actions, one at a time (R262, R267): steps with the host's writes between
them. Each action comes with the free value of `afterOutcome`. -/
def hostRun : List (HostAction × State) → State → State
  | [], s => s
  | (act, left) :: rest, s => hostRun rest (hostTurn left act s)

end Sys2Proof.Machine
end

