-- ==== Sys2Proof/Safety.lean ====
section
/-! DEFINITION. What a claim may call a good state, and how a run can end (spec/50_video_device.md R239,
spec/60_exceptions.md R268). -/

namespace Sys2Proof.Machine

/-- R239: every row of the tile set is what the two raw bytes of the row give. -/
def State.tilesConsistent (s : State) : Prop :=
  ∀ t, t < 384 → ∀ r, r < 8 →
    s.tileRowAt t r = tileRow (s.videoRead (16 * t + 2 * r)) (s.videoRead (16 * t + 2 * r + 1))

/-- The memories are in canonical form and list only what exists: video memory the offsets below 0x2000, the tile set
the 3072 rows, the host's memory the addresses the host owns. -/
def State.memoryWf (s : State) : Prop :=
  memWf s.vram = true ∧ memWf s.hostMem = true ∧ tilesWf s.tiles = true ∧
  (∀ e ∈ s.vram, e.1 < 0x2000) ∧ (∀ e ∈ s.tiles, e.1 < 3072) ∧
  (∀ e ∈ s.hostMem, e.1 < 0x10000 ∧ hostOwns s.params (BitVec.ofNat 16 e.1) = true)

/-- The invariant of the machine. -/
def State.Inv (s : State) : Prop := s.memoryWf ∧ s.tilesConsistent

/-- The recommended end of a run (R268): halted and not faulted. -/
def State.ended (s : State) : Bool := s.halted && !s.faulted

/-- The livelock at an unrecognized byte under UNDEF_POLICY = inert: every later step fetches the same byte again (R252,
R292). -/
def State.livelocked (s : State) : Bool :=
  !s.faulted && !s.halted && s.mapped s.pc && decide (s.params.undefPolicy = .inert) &&
    ((decodeMain (s.byteAt s.pc)).isUnrecognized || s.refusesByte (s.byteAt s.pc))

/-- The three quiescent conditions of R268: halted, faulted, or the livelock at an unrecognized byte. A jump to itself is
none of them (R162). -/
def State.quiescent (s : State) : Bool := s.halted || s.faulted || s.livelocked

/-! ### What an instruction may change, by its form

The classes the frame claims speak of. The row of the byte 0xCB is in none of them: it runs whatever instruction its
second byte selects. -/

/-- The form has a memory operand at HL that it writes. -/
def formStoresAtHl : Form → Bool
  | .incMem | .decMem | .stReg _ | .stImm | .shiftMem _ | .resMem _ | .setMem _ => true
  | _ => false

/-- The form may push a word on the stack. -/
def formPushes : Form → Bool
  | .push _ | .call | .callCc _ => true
  | _ => false

/-- The form may pop a word off the stack. -/
def formPops : Form → Bool
  | .pop _ | .ret | .retCc _ => true
  | _ => false

/-- The form stores nothing. -/
def formStoresNothing (f : Form) : Bool := !formStoresAtHl f && !formPushes f && decide (f ≠ .prefixByte)

/-- The form is a control transfer (R168). -/
def formTransfers : Form → Bool
  | .jp | .jpCc _ | .call | .callCc _ | .ret | .retCc _ => true
  | _ => false

/-- The 8-bit registers of a pair view (R25). -/
def pairRegs : PairView → List Reg8
  | .bc => [.b, .c]
  | .de => [.d, .e]
  | .hl => [.h, .l]
  | .af => [.a]

/-- The 8-bit registers of an operand of table A (R84). -/
def selRegs : PairSel → List Reg8
  | .bc => [.b, .c]
  | .de => [.d, .e]
  | .hl => [.h, .l]
  | .sp => []

/-- The destination registers of a form. -/
def formDests : Form → List Reg8
  | .rotA _ | .aluReg _ _ | .aluMem _ | .aluImm _ => [.a]
  | .addHl _ => [.h, .l]
  | .incReg r | .decReg r | .shiftReg _ r | .resReg _ r | .setReg _ r => [r]
  | .inc16 p | .dec16 p => selRegs p
  | .pop p => pairRegs p
  | .ldReg dst _ | .ldImm dst | .ldMem dst => [dst]
  | _ => []

/-- The form writes at least one flag (R34). -/
def formWritesFlags : Form → Bool
  | .rotA _ | .aluReg _ _ | .aluMem _ | .aluImm _ | .addHl _ | .incReg _ | .incMem | .decReg _ | .decMem
  | .pop .af | .shiftReg _ _ | .shiftMem _ | .bitReg _ _ | .bitMem _ => true
  | _ => false

/-- The form may move the stack pointer (R31). -/
def formMovesSp : Form → Bool
  | .push _ | .pop _ | .call | .callCc _ | .ret | .retCc _ | .inc16 .sp | .dec16 .sp => true
  | _ => false

end Sys2Proof.Machine
end

