-- ==== Sys2Proof/Certificates/Slice0/Obligations.lean ====
section
/-! DEFINITION. The statements for the provers. `(Form.aluReg .add r).instr` is the row ADD A,r of the opcode table, and
so on for each form. Post-states are written out as updates of the state before, so that an equation says the result,
the flags, the program counter and that nothing else changes. Opcode numbers are the spec's decision D1. -/

open Sys2Proof Sys2Proof.Machine

/-! ### Encoding -/

/-- Words written out from spec/30_encoding.md R91 to R95, one or more per family. The opcode numbers are the spec's
decision D1. -/
def Obligations.WrittenWordsDecode : Prop :=
  decode [0x00] = .ok (.nop, []) ∧ decode [0x76] = .ok (.halt, []) ∧ decode [0x17] = .ok (.rla, []) ∧
  decode [0x86] = .ok (.add_A_mHL, []) ∧ decode [0xDE, 0x02] = .ok (.sbc_A_n, [0x02]) ∧
  decode [0xB8] = .ok (.cp_B, []) ∧ decode [0x39] = .ok (.add_HL_SP, []) ∧ decode [0x34] = .ok (.inc_mHL, []) ∧
  decode [0x1B] = .ok (.dec_DE, []) ∧ decode [0xF5] = .ok (.push_AF, []) ∧
  decode [0xD2, 0x34, 0x12] = .ok (.jp_NC_nn, [0x34, 0x12]) ∧ decode [0xCD, 0x00, 0x10] = .ok (.call_nn, [0x00, 0x10]) ∧
  decode [0xC8] = .ok (.ret_Z, []) ∧ decode [0x66] = .ok (.ld_H_mHL, []) ∧ decode [0x36, 0xAB] = .ok (.ld_mHL_n, [0xAB]) ∧
  decode [0xCB, 0x2D] = .ok (.sra_L, []) ∧ decode [0xCB, 0x76] = .ok (.bit_6_mHL, []) ∧
  decode [0xCB, 0x9A] = .ok (.res_3_D, []) ∧ decode [0xCB, 0xCB] = .ok (.set_1_E, []) ∧
  decode [0xD3] = .ok (.unrecognized_D3, [])

/-- The 55 bytes of R98, which the spec's decision D2 fixes. -/
def Obligations.UnrecognizedBytesAreTheFiftyFive : Prop :=
  ∀ op : Byte,
    ((decodeMain op).isUnrecognized = true ↔
      op ∈ ([0x01, 0x02, 0x08, 0x0A, 0x10, 0x11, 0x12, 0x18, 0x1A, 0x20, 0x21, 0x22, 0x27, 0x28, 0x2A, 0x2F, 0x30, 0x31,
        0x32, 0x37, 0x38, 0x3A, 0x3F, 0xC7, 0xCF, 0xD3, 0xD7, 0xD9, 0xDB, 0xDD, 0xDF, 0xE0, 0xE2, 0xE3, 0xE4, 0xE7,
        0xE8, 0xE9, 0xEA, 0xEB, 0xEC, 0xED, 0xEF, 0xF0, 0xF2, 0xF3, 0xF4, 0xF7, 0xF8, 0xF9, 0xFA, 0xFB, 0xFC, 0xFD,
        0xFF] : List Byte)) ∧
    (decodeMainOption op = none ↔ (decodeMain op).isUnrecognized = true ∨ op = 0xCB)

/-- Decode and encode agree: the opcode bytes of every legal instruction, followed by anything, are read back as that
instruction, and what follows is left as it stood. -/
def Obligations.DecodeReadsBackEveryEncoding : Prop :=
  ∀ (i : Instr) (rest : List Byte), i.wellFormed = true → decode (encode i ++ rest) = .ok (i, rest)

/-- The other direction (R105): bytes that decode to a row are that row's own opcode bytes, followed by what the decoder
left; so a byte sequence has one spelling and no bit of an opcode is dropped. -/
def Obligations.DecodedBytesAreTheEncoding : Prop :=
  ∀ (bytes rest : List Byte) (i : Instr), decode bytes = .ok (i, rest) → bytes = encode i ++ rest

/-! ### The step -/

/-- A step runs the decoded instruction: with the machine neither faulted nor halted, the opcode bytes at PC mapped, and
the opcode not refused by UNSPEC_FAMILIES, step is exec of the instruction they decode to, in the same state. The
machine adds nothing around exec: PC is moved by the instruction itself. -/
def Obligations.StepRunsDecodedInstruction : Prop :=
  ∀ (s : State) (i : Instr), s.faulted = false → s.halted = false → s.mapped s.pc = true →
    s.refusesByte (s.byteAt s.pc) = false →
    (s.byteAt s.pc ≠ 0xCB → decode [s.byteAt s.pc] = .ok (i, []) → step s = exec i s) ∧
    (s.byteAt s.pc = 0xCB → s.mapped (s.pc + 1) = true →
      decode [s.byteAt s.pc, s.byteAt (s.pc + 1)] = .ok (i, []) → step s = exec i s)

/-- The fetch faults of R251, in the order of R256: the faulted test, the halted test, the opcode fetch, the second
fetch. The position of the halted test is the spec's decision D12; that a step of a faulted machine, which takes no step,
answers machineFaulted is the model's choice (log 5). The last clause is under UNSPEC_FAMILIES = sm83. -/
def Obligations.FetchFaultsInOrder : Prop :=
  ∀ s : State,
    (s.faulted = true → step s = .fault .machineFaulted) ∧
    (s.faulted = false → s.halted = true → step s = .next s) ∧
    (s.faulted = false → s.halted = false → s.mapped s.pc = false → step s = .fault (.busFault s.pc .fetch)) ∧
    (s.faulted = false → s.halted = false → s.mapped s.pc = true → s.byteAt s.pc = 0xCB →
      s.params.unspecFamilies = .sm83 → s.mapped (s.pc + 1) = false →
      step s = .fault (.busFault (s.pc + 1) .fetch))

/-- R37: HALT sets the flag, every step of a halted machine is inert, no instruction reads it (an instruction does the
same with the flag set) or clears it, and it is cleared by reset, and by Resume only where that is present. That
Resume changes nothing else is R261, HOST_RESUME and the host's write of the flag are the spec's decisions D14 and D16,
and that the two are refused where HOST_RESUME is absent is the model's choice (log 7). -/
def Obligations.HaltedFlagLifecycle : Prop :=
  (∀ s : State, ∃ t, exec .halt s = .next t ∧ t.halted = true) ∧
  (∀ s : State, s.faulted = false → s.halted = true → step s = .next s) ∧
  (∀ (i : Instr) (s t : State), exec i s = .next t → t.halted = (s.halted || decide (i = .halt))) ∧
  (∀ (i : Instr) (s t : State), exec i s = .next t →
    exec i { s with halted := true } = .next { t with halted := true }) ∧
  (∀ s : State, ∃ t, hostAct .reset s = .next t ∧ t.halted = false) ∧
  (∀ s : State, s.params.hostResume = .present → hostAct .resume s = .next { s with halted := false }) ∧
  (∀ s : State, s.params.hostResume = .absent → hostAct .resume s = .refused .resumeAbsent) ∧
  (∀ (s : State) (v : Bool),
    (s.params.hostResume = .present → hostAct (.writeHalted v) s = .next { s with halted := v }) ∧
    (s.params.hostResume = .absent → hostAct (.writeHalted v) s = .refused .haltedNotWritable))

/-- The faulted latch. That the terminal condition is held as a latch is the spec's decision D11; that a step not taken
answers machineFaulted, and that what a BusFault leaves beside the latch is any value `left`, is how the model says R251
(log 5). A fault of a step sets the latch, UndefinedOpcode changing nothing else (R252); a set latch stops Step and
Execute, and no host action but reset clears it; no completed step changes it. -/
def Obligations.FaultedLatchStopsTheMachine : Prop :=
  (∀ (left s : State) (w : Fault), step s = .fault w → (drive left s).faulted = true) ∧
  (∀ (left s : State) (op : Byte) (pc : Word), step s = .fault (.undefinedOpcode op pc) →
    drive left s = { s with faulted := true }) ∧
  (∀ left s : State, s.faulted = true →
    step s = .fault .machineFaulted ∧ drive left s = s ∧ (∀ i, hostAct (.execute i) s = .fault .machineFaulted) ∧
    ∀ act, act ≠ .reset → (hostTurn left act s).faulted = true) ∧
  (∀ s t : State, step s = .next t → s.faulted = false ∧ t.faulted = false) ∧
  (∀ s : State, ∃ t, hostAct .reset s = .next t ∧ t.faulted = false)

/-- R252, for every unrecognized row and for a step that meets one. Under `inert` the whole state is as before, PC
included; under `fatal` the byte and the pc are reported. The policy is the spec's parameter (decision D9). -/
def Obligations.UnrecognizedByteIsInertOrFatal : Prop :=
  ∀ (op : Byte) (s : State), (decodeMain op).isUnrecognized = true →
    (s.params.undefPolicy = .inert → exec (decodeMain op) s = .next s) ∧
    (s.params.undefPolicy = .fatal → exec (decodeMain op) s = .fault (.undefinedOpcode op s.pc)) ∧
    (s.faulted = false → s.halted = false → s.mapped s.pc = true → s.byteAt s.pc = op →
      (s.params.undefPolicy = .inert → step s = .next s) ∧
      (s.params.undefPolicy = .fatal → step s = .fault (.undefinedOpcode op s.pc)))

/-- R98 under UNSPEC_FAMILIES = refuse (the spec's decision D31): the 58 listed main-space opcodes and the byte 0xCB act
as unrecognized bytes. For 0xCB the second byte is not read, even where it is unmapped: that the test of the byte comes
before the second fetch is the model's reading (log 4). -/
def Obligations.RefusedFamiliesActAsUnrecognized : Prop :=
  ∀ s : State, s.faulted = false → s.halted = false → s.mapped s.pc = true → s.params.unspecFamilies = .refuse →
    (s.byteAt s.pc ∈ ([0x07, 0x0F, 0x17, 0x1F, 0xCE, 0xDE, 0xE6, 0xEE, 0xF6, 0xFE, 0xCB] : List Byte) ∨
      (0x88 ≤ (s.byteAt s.pc).toNat ∧ (s.byteAt s.pc).toNat ≤ 0x8F) ∨
      (0x98 ≤ (s.byteAt s.pc).toNat ∧ (s.byteAt s.pc).toNat ≤ 0x9F) ∨
      (0xA0 ≤ (s.byteAt s.pc).toNat ∧ (s.byteAt s.pc).toNat ≤ 0xBF)) →
    (s.params.undefPolicy = .inert → step s = .next s) ∧
    (s.params.undefPolicy = .fatal → step s = .fault (.undefinedOpcode (s.byteAt s.pc) s.pc))

/-- R101: the row of the byte 0xCB fetches the byte after it and runs the secondary instruction that byte decodes to.
Its meaning as a row is the model's choice (log 6). The last clause says where it completes. -/
def Obligations.PrefixRowRunsSecondarySpace : Prop :=
  ∀ s : State,
    (s.mapped (s.pc + 1) = true → exec .prefix_CB s = exec (decodeCb (s.byteAt (s.pc + 1))) s) ∧
    (s.mapped (s.pc + 1) = false → exec .prefix_CB s = .fault (.busFault (s.pc + 1) .fetch)) ∧
    (s.mapped (s.pc + 1) = true → s.mapped s.hl = true → ∃ t, exec .prefix_CB s = .next t ∧ t.pc = s.pc + 2)

/-! ### Registers and flags -/

/-- R20: seven independent 8-bit storages; a write of one changes that one and nothing else. -/
def Obligations.RegistersAreIndependent : Prop :=
  ∀ (s : State) (r q : Reg8) (v : Byte),
    (s.setReg r v).getReg q = (if q = r then v else s.getReg q) ∧
    (s.setReg r v).flags = s.flags ∧ (s.setReg r v).pc = s.pc ∧ (s.setReg r v).sp = s.sp ∧
    (s.setReg r v).halted = s.halted ∧ (s.setReg r v).faulted = s.faulted ∧ (s.setReg r v).vram = s.vram ∧
    (s.setReg r v).tiles = s.tiles ∧ (s.setReg r v).hostMem = s.hostMem ∧ (s.setReg r v).params = s.params

/-- R24 and R25: the pair views are computed from the two bytes, and a pair write is two byte writes, except that the
low byte of AF is the flags. The pair's value is 256 times the high byte plus the low byte. -/
def Obligations.PairViewsReadAndWrite : Prop :=
  ∀ (s : State) (v : Word),
    (s.getPair .bc).toNat = 256 * s.b.toNat + s.c.toNat ∧
    (s.getPair .de).toNat = 256 * s.d.toNat + s.e.toNat ∧
    (s.getPair .hl).toNat = 256 * s.h.toNat + s.l.toNat ∧
    (s.getPair .af).toNat = 256 * s.a.toNat + (flagsByte s.flags).toNat ∧
    (s.getPair .af).toNat % 16 = 0 ∧
    s.setPair .bc v = { s with b := BitVec.ofNat 8 (v.toNat / 256), c := BitVec.ofNat 8 v.toNat } ∧
    s.setPair .de v = { s with d := BitVec.ofNat 8 (v.toNat / 256), e := BitVec.ofNat 8 v.toNat } ∧
    s.setPair .hl v = { s with h := BitVec.ofNat 8 (v.toNat / 256), l := BitVec.ofNat 8 v.toNat } ∧
    s.setPair .af v =
      { s with
        a := BitVec.ofNat 8 (v.toNat / 256)
        flags := { z := v.getLsbD 7, n := v.getLsbD 6, h := v.getLsbD 5, c := v.getLsbD 4 } }

/-- R26, and the last clause of R33: the round trip of the pair views, in which AF loses the low nibble, and of the
flags byte. The spec marks both as derived. -/
def Obligations.PairWriteThenRead : Prop :=
  (∀ (s : State) (v : Word),
    (∀ p, p ≠ .af → (s.setPair p v).getPair p = v) ∧ (s.setPair .af v).getPair .af = v &&& 0xFFF0) ∧
  (∀ v : Byte, flagsByte (flagsOfByte v) = v &&& 0xF0)

/-- R32: the layout of the flags byte; and decoding it, with the round trip from flags to flags (R33 but for its derived
clause). -/
def Obligations.FlagsByteLayout : Prop :=
  (∀ f : Flags,
    (flagsByte f).toNat = 128 * f.z.toNat + 64 * f.n.toNat + 32 * f.h.toNat + 16 * f.c.toNat ∧
    flagsOfByte (flagsByte f) = f) ∧
  (∀ v : Byte, flagsOfByte v = { z := v.getLsbD 7, n := v.getLsbD 6, h := v.getLsbD 5, c := v.getLsbD 4 })

/-- Which instructions leave the flags alone (R34): every form that writes no flag keeps all four, INC and DEC and BIT
keep C, ADD HL keeps Z. The row of the byte 0xCB stands aside: it runs another row. -/
def Obligations.FlagsUntouchedByOthers : Prop :=
  ∀ (i : Instr) (s t : State), i ≠ .prefix_CB → exec i s = .next t →
    (formWritesFlags i.form = false → t.flags = s.flags) ∧
    ((∃ r, i.form = .incReg r ∨ i.form = .decReg r) ∨ i.form = .incMem ∨ i.form = .decMem ∨
      (∃ b, i.form = .bitMem b ∨ ∃ r, i.form = .bitReg b r) → t.flags.c = s.flags.c) ∧
    ((∃ p, i.form = .addHl p) → t.flags.z = s.flags.z)

/-! ### Reset and the invariant -/

/-- The state after reset (R280). The zeros are the spec's decision D15; the region and the image of zeros are the
model's choices (log 1, log 2). -/
def Obligations.ResetValues : Prop :=
  (∀ r, State.reset.getReg r = 0x00) ∧ State.reset.flags = ⟨false, false, false, false⟩ ∧
  State.reset.pc = 0x0000 ∧ State.reset.sp = 0x0000 ∧ State.reset.halted = false ∧ State.reset.faulted = false ∧
  (∀ o, State.reset.videoRead o = 0x00) ∧ (∀ t r c, (State.reset.tileRowAt t r).pixel c = 0) ∧
  (∀ x, State.reset.byteAt x = 0x00) ∧ (∀ x, State.reset.mapped x = true) ∧
  (∀ s : State, s.resetAgain.hostMem = s.hostMem ∧ s.resetAgain.params = s.params ∧
    { s.resetAgain with hostMem := [], params := State.reset.params } = State.reset)

/-- The invariant holds at reset, and at every launch (R6): whatever LAUNCH_STATE and the parameters are, if HOST_IMAGE is
in canonical form and lists addresses of HOST_REGION alone. -/
def Obligations.ResetMeetsInvariant : Prop :=
  State.reset.Inv ∧
  ∀ (params : Params) (image : List Host.Cell) (i : LaunchState), memWf image = true →
    (∀ e ∈ image, e.1 < 0x10000 ∧ hostOwns params (BitVec.ofNat 16 e.1) = true) → (State.launch params image i).Inv

/-- Every step keeps the invariant: the three memories stay in canonical form and list only what exists, and the tile
set stays what the raw bytes give (R239). -/
def Obligations.StepKeepsInvariant : Prop :=
  ∀ s t : State, s.Inv → step s = .next t → t.Inv

/-- Every action of the host keeps it too (R231: a host write recomputes the tile row as a bus write does), and so does
every run of host actions (R267), if what a BusFault leaves is itself a state of this machine that meets the
invariant. -/
def Obligations.HostActionsKeepInvariant : Prop :=
  (∀ (act : HostAction) (s t : State), s.Inv → hostAct act s = .next t → t.Inv) ∧
  (∀ (turns : List (HostAction × State)) (s : State), s.Inv →
    (∀ e ∈ turns, e.2.Inv ∧ e.2.params = s.params) → (hostRun turns s).Inv)

/-- No instruction and no step changes a parameter of R6 or the faulted latch. -/
def Obligations.ParametersAndLatchNeverChange : Prop :=
  (∀ (i : Instr) (s t : State), exec i s = .next t → t.params = s.params ∧ t.faulted = s.faulted) ∧
  (∀ s t : State, step s = .next t → t.params = s.params ∧ t.faulted = s.faulted)

/-! ### The bus and the video device -/

/-- R51 to R54: the two bus operations on an address of the video window, of the host's region, and of neither. Which kind
an access has is its caller's to say. That the host's region is plain storage is the spec's decision D10; what a byte of
it reads that nothing has written is the model's choice (log 2). -/
def Obligations.BusOperations : Prop :=
  ∀ (s : State) (x : Word) (k : Access) (v : Byte) (f : Byte → Result) (g : State → Result),
    (0x8000 ≤ x.toNat → x.toNat ≤ 0x9FFF →
      memRead s x k f = f (s.videoRead (x.toNat - 0x8000)) ∧
      memWrite s x v g = g (s.videoWrite (x.toNat - 0x8000) v)) ∧
    ((x.toNat < 0x8000 ∨ 0x9FFF < x.toNat) →
      (∃ r ∈ s.params.hostRegion, r.lo.toNat ≤ x.toNat ∧ x.toNat ≤ r.hi.toNat) →
      memRead s x k f = f (sparseGet fillByte s.hostMem x.toNat) ∧
      memWrite s x v g = g { s with hostMem := sparsePut fillByte s.hostMem x.toNat v }) ∧
    ((x.toNat < 0x8000 ∨ 0x9FFF < x.toNat) →
      (∀ r ∈ s.params.hostRegion, x.toNat < r.lo.toNat ∨ r.hi.toNat < x.toNat) →
      memRead s x k f = .fault (.busFault x k) ∧ memWrite s x v g = .fault (.busFault x .write))

/-- A byte stored is read back, every other byte is as before, and nothing but memory changes (R65, R52). -/
def Obligations.StoredByteIsReadBack : Prop :=
  ∀ (s : State) (x y : Word) (v : Byte),
    (s.storeByte x v).byteAt y = (if y = x then v else s.byteAt y) ∧
    ∃ vr ti hm, s.storeByte x v = { s with vram := vr, tiles := ti, hostMem := hm }

/-- R235 and R237, and the row of R236 (whose partner byte is the spec's decision D27): a device write stores the byte,
and in the tile-data window sets the one row it lies in to the levels 2 * high + low, most significant bit first;
every other row is as before. -/
def Obligations.VideoWriteRecomputesOneRow : Prop :=
  ∀ (s : State) (o : Nat) (v : Byte), o ≤ 0x1FFF →
    (∀ q, (s.videoWrite o v).videoRead q = if q = o then v else s.videoRead q) ∧
    (∀ t r, t < 384 → r < 8 → ¬ (o ≤ 0x17FF ∧ t = o / 16 ∧ r = o % 16 / 2) →
      (s.videoWrite o v).tileRowAt t r = s.tileRowAt t r) ∧
    (o ≤ 0x17FF → ∀ c : Fin 8,
      (((s.videoWrite o v).tileRowAt (o / 16) (o % 16 / 2)).pixel c).toNat =
        2 * (((s.videoWrite o v).videoRead (o / 2 * 2 + 1)).getLsbD (7 - c.val)).toNat +
          (((s.videoWrite o v).videoRead (o / 2 * 2)).getLsbD (7 - c.val)).toNat)

/-! ### 8-bit arithmetic and logic on the accumulator -/

/-- ADD A in its three forms. That the destination is A, and the (HL) and immediate operands, are the spec's decisions
D6 and D5. -/
def Obligations.AddToAccumulator : Prop :=
  ∀ s : State,
    let post (v : Byte) (n : Word) : State :=
      { s with
        a := s.a + v
        flags :=
          { z := decide (s.a + v = 0), n := false
            h := decide (s.a.toNat % 16 + v.toNat % 16 > 15), c := decide (s.a.toNat + v.toNat > 255) }
        pc := s.pc + n }
    (∀ r, exec (Form.aluReg .add r).instr s = .next (post (s.getReg r) 1)) ∧
    (s.mapped s.hl = true → exec (Form.aluMem .add).instr s = .next (post (s.byteAt s.hl) 1)) ∧
    (s.mapped s.hl = false → exec (Form.aluMem .add).instr s = .fault (.busFault s.hl .read)) ∧
    (s.mapped (s.pc + 1) = true → exec (Form.aluImm .add).instr s = .next (post (s.byteAt (s.pc + 1)) 2)) ∧
    (s.mapped (s.pc + 1) = false → exec (Form.aluImm .add).instr s = .fault (.busFault (s.pc + 1) .fetch))

/-- ADC A in its three forms (R117 to R119, which the spec marks as from general knowledge). -/
def Obligations.AddWithCarry : Prop :=
  ∀ s : State,
    let cin : Nat := s.flags.c.toNat
    let post (v : Byte) (n : Word) : State :=
      { s with
        a := BitVec.ofNat 8 (s.a.toNat + v.toNat + cin)
        flags :=
          { z := decide ((s.a.toNat + v.toNat + cin) % 256 = 0), n := false
            h := decide (s.a.toNat % 16 + v.toNat % 16 + cin > 15), c := decide (s.a.toNat + v.toNat + cin > 255) }
        pc := s.pc + n }
    (∀ r, exec (Form.aluReg .adc r).instr s = .next (post (s.getReg r) 1)) ∧
    (s.mapped s.hl = true → exec (Form.aluMem .adc).instr s = .next (post (s.byteAt s.hl) 1)) ∧
    (s.mapped s.hl = false → exec (Form.aluMem .adc).instr s = .fault (.busFault s.hl .read)) ∧
    (s.mapped (s.pc + 1) = true → exec (Form.aluImm .adc).instr s = .next (post (s.byteAt (s.pc + 1)) 2)) ∧
    (s.mapped (s.pc + 1) = false → exec (Form.aluImm .adc).instr s = .fault (.busFault (s.pc + 1) .fetch))

/-- SUB in its three forms (R111, R120 to R122; the spec's decisions D3 and D8). -/
def Obligations.SubtractFromAccumulator : Prop :=
  ∀ s : State,
    let post (v : Byte) (n : Word) : State :=
      { s with
        a := s.a - v
        flags :=
          { z := decide (s.a = v), n := true
            h := decide (s.a.toNat % 16 < v.toNat % 16), c := decide (s.a.toNat < v.toNat) }
        pc := s.pc + n }
    (∀ r, exec (Form.aluReg .sub r).instr s = .next (post (s.getReg r) 1)) ∧
    (s.mapped s.hl = true → exec (Form.aluMem .sub).instr s = .next (post (s.byteAt s.hl) 1)) ∧
    (s.mapped s.hl = false → exec (Form.aluMem .sub).instr s = .fault (.busFault s.hl .read)) ∧
    (s.mapped (s.pc + 1) = true → exec (Form.aluImm .sub).instr s = .next (post (s.byteAt (s.pc + 1)) 2)) ∧
    (s.mapped (s.pc + 1) = false → exec (Form.aluImm .sub).instr s = .fault (.busFault (s.pc + 1) .fetch))

/-- SBC A in its three forms (R123 to R125, from general knowledge by the spec's own mark). -/
def Obligations.SubtractWithCarry : Prop :=
  ∀ s : State,
    let cin : Nat := s.flags.c.toNat
    let post (v : Byte) (n : Word) : State :=
      { s with
        a := s.a - v - BitVec.ofNat 8 cin
        flags :=
          { z := decide ((256 + s.a.toNat - (v.toNat + cin)) % 256 = 0), n := true
            h := decide (s.a.toNat % 16 < v.toNat % 16 + cin), c := decide (s.a.toNat < v.toNat + cin) }
        pc := s.pc + n }
    (∀ r, exec (Form.aluReg .sbc r).instr s = .next (post (s.getReg r) 1)) ∧
    (s.mapped s.hl = true → exec (Form.aluMem .sbc).instr s = .next (post (s.byteAt s.hl) 1)) ∧
    (s.mapped s.hl = false → exec (Form.aluMem .sbc).instr s = .fault (.busFault s.hl .read)) ∧
    (s.mapped (s.pc + 1) = true → exec (Form.aluImm .sbc).instr s = .next (post (s.byteAt (s.pc + 1)) 2)) ∧
    (s.mapped (s.pc + 1) = false → exec (Form.aluImm .sbc).instr s = .fault (.busFault (s.pc + 1) .fetch))

/-- AND, XOR and OR in their three forms (R126 to R134, from general knowledge by the spec's own mark): AND sets H, the
others clear it. The result is said bit by bit. -/
def Obligations.BitwiseOnAccumulator : Prop :=
  ∀ (s : State) (o : AluOp) (half : Bool) (bitOp : Bool → Bool → Bool),
    (o, half, bitOp) = (.and, true, and) ∨ (o, half, bitOp) = (.xor, false, xor) ∨ (o, half, bitOp) = (.or, false, or) →
    let good (v w : Byte) : Prop := ∀ k, k < 8 → w.getLsbD k = bitOp (s.a.getLsbD k) (v.getLsbD k)
    let post (w : Byte) (n : Word) : State :=
      { s with a := w, flags := { z := decide (w = 0), n := false, h := half, c := false }, pc := s.pc + n }
    (∀ r, ∃ w, good (s.getReg r) w ∧ exec (Form.aluReg o r).instr s = .next (post w 1)) ∧
    (s.mapped s.hl = true →
      ∃ w, good (s.byteAt s.hl) w ∧ exec (Form.aluMem o).instr s = .next (post w 1)) ∧
    (s.mapped s.hl = false → exec (Form.aluMem o).instr s = .fault (.busFault s.hl .read)) ∧
    (s.mapped (s.pc + 1) = true →
      ∃ w, good (s.byteAt (s.pc + 1)) w ∧ exec (Form.aluImm o).instr s = .next (post w 2)) ∧
    (s.mapped (s.pc + 1) = false → exec (Form.aluImm o).instr s = .fault (.busFault (s.pc + 1) .fetch))

/-- CP in its three forms (R135 to R137, from general knowledge by the spec's own mark): the flags of SUB, and the
accumulator kept. -/
def Obligations.CompareKeepsAccumulator : Prop :=
  ∀ s : State,
    let post (v : Byte) (n : Word) : State :=
      { s with
        flags :=
          { z := decide (s.a = v), n := true
            h := decide (s.a.toNat % 16 < v.toNat % 16), c := decide (s.a.toNat < v.toNat) }
        pc := s.pc + n }
    (∀ r, exec (Form.aluReg .cp r).instr s = .next (post (s.getReg r) 1)) ∧
    (s.mapped s.hl = true → exec (Form.aluMem .cp).instr s = .next (post (s.byteAt s.hl) 1)) ∧
    (s.mapped s.hl = false → exec (Form.aluMem .cp).instr s = .fault (.busFault s.hl .read)) ∧
    (s.mapped (s.pc + 1) = true → exec (Form.aluImm .cp).instr s = .next (post (s.byteAt (s.pc + 1)) 2)) ∧
    (s.mapped (s.pc + 1) = false → exec (Form.aluImm .cp).instr s = .fault (.busFault (s.pc + 1) .fetch))

/-! ### 16-bit addition, increments and decrements -/

/-- R140 and R141: ADD HL,rr on BC, DE and HL. The half-carry is the carry out of bit 11 (conflict C1), Z is kept. -/
def Obligations.AddPairToHl : Prop :=
  ∀ (s : State) (p : PairSel) (q : PairView), (p, q) ∈ [(.bc, .bc), (.de, .de), (.hl, .hl)] →
    encode (Form.addHl p).instr = [BitVec.ofNat 8 (0x09 + 16 * p.sel)] ∧
    exec (Form.addHl p).instr s = .next
      { s with
        h := BitVec.ofNat 8 (((s.getPair .hl).toNat + (s.getPair q).toNat) / 256)
        l := BitVec.ofNat 8 ((s.getPair .hl).toNat + (s.getPair q).toNat)
        flags :=
          { z := s.flags.z, n := false
            h := decide ((s.getPair .hl).toNat % 4096 + (s.getPair q).toNat % 4096 > 4095)
            c := decide ((s.getPair .hl).toNat + (s.getPair q).toNat > 65535) }
        pc := s.pc + 1 }

/-- R143: INC r. -/
def Obligations.IncrementRegister : Prop :=
  ∀ (s : State) (r : Reg8),
    encode (Form.incReg r).instr = [BitVec.ofNat 8 (0x04 + 8 * r.sel)] ∧
    exec (Form.incReg r).instr s = .next
      { s.setReg r (s.getReg r + 1) with
        flags :=
          { z := decide (s.getReg r = 0xFF), n := false, h := decide ((s.getReg r).toNat % 16 = 15), c := s.flags.c }
        pc := s.pc + 1 }

/-- R145: DEC r. The borrow rule is the spec's decision D8. -/
def Obligations.DecrementRegister : Prop :=
  ∀ (s : State) (r : Reg8),
    encode (Form.decReg r).instr = [BitVec.ofNat 8 (0x05 + 8 * r.sel)] ∧
    exec (Form.decReg r).instr s = .next
      { s.setReg r (s.getReg r - 1) with
        flags :=
          { z := decide (s.getReg r = 1), n := true, h := decide ((s.getReg r).toNat % 16 = 0), c := s.flags.c }
        pc := s.pc + 1 }

/-- R144 and R146: INC (HL) and DEC (HL) (the spec's decision D5). -/
def Obligations.IncrementDecrementMemory : Prop :=
  ∀ s : State,
    (s.mapped s.hl = true →
      exec .inc_mHL s = .next
        { s.storeByte s.hl (s.byteAt s.hl + 1) with
          flags :=
            { z := decide (s.byteAt s.hl = 0xFF), n := false, h := decide ((s.byteAt s.hl).toNat % 16 = 15)
              c := s.flags.c }
          pc := s.pc + 1 } ∧
      exec .dec_mHL s = .next
        { s.storeByte s.hl (s.byteAt s.hl - 1) with
          flags :=
            { z := decide (s.byteAt s.hl = 1), n := true, h := decide ((s.byteAt s.hl).toNat % 16 = 0)
              c := s.flags.c }
          pc := s.pc + 1 }) ∧
    (s.mapped s.hl = false →
      exec .inc_mHL s = .fault (.busFault s.hl .read) ∧ exec .dec_mHL s = .fault (.busFault s.hl .read))

/-- R147 and R149: INC rr and DEC rr on BC, DE and HL. -/
def Obligations.IncrementDecrementPair : Prop :=
  ∀ (s : State) (p : PairSel) (q : PairView), (p, q) ∈ [(.bc, .bc), (.de, .de), (.hl, .hl)] →
    encode (Form.inc16 p).instr = [BitVec.ofNat 8 (0x03 + 16 * p.sel)] ∧
    encode (Form.dec16 p).instr = [BitVec.ofNat 8 (0x0B + 16 * p.sel)] ∧
    exec (Form.inc16 p).instr s = .next { s.setPair q (s.getPair q + 1) with pc := s.pc + 1 } ∧
    exec (Form.dec16 p).instr s = .next { s.setPair q (s.getPair q - 1) with pc := s.pc + 1 }

/-- R142, R148 and R150: ADD HL,SP, INC SP and DEC SP (the spec's decision D5). -/
def Obligations.StackPointerOperand : Prop :=
  ∀ s : State,
    exec .add_HL_SP s = .next
      { s.setPair .hl (s.getPair .hl + s.sp) with
        flags :=
          { z := s.flags.z, n := false
            h := decide ((s.getPair .hl).toNat % 4096 + s.sp.toNat % 4096 > 4095)
            c := decide ((s.getPair .hl).toNat + s.sp.toNat > 65535) }
        pc := s.pc + 1 } ∧
    exec .inc_SP s = .next { s with sp := s.sp + 1, pc := s.pc + 1 } ∧
    exec .dec_SP s = .next { s with sp := s.sp - 1, pc := s.pc + 1 }

/-! ### The stack and control transfer -/

/-- R156 and R157: the two stack operations, with what follows them. The push stores the high byte at SP - 1 and the low
byte at SP - 2, the pop reads them back in the opposite order and changes no memory; SP wraps, being 16 bits wide. Of
two unmapped addresses the first one accessed is reported. -/
def Obligations.StackOperations : Prop :=
  (∀ (s : State) (v : Word) (rest : State → Result),
    (s.mapped (s.sp - 1) = true → s.mapped (s.sp - 2) = true →
      push16 s v rest = rest
        { (s.storeByte (s.sp - 1) (BitVec.ofNat 8 (v.toNat / 256))).storeByte (s.sp - 2) (BitVec.ofNat 8 v.toNat) with
          sp := s.sp - 2 }) ∧
    (s.mapped (s.sp - 1) = false → push16 s v rest = .fault (.busFault (s.sp - 1) .write)) ∧
    (s.mapped (s.sp - 1) = true → s.mapped (s.sp - 2) = false →
      push16 s v rest = .fault (.busFault (s.sp - 2) .write))) ∧
  (∀ (s : State) (rest : Word → State → Result),
    (s.mapped s.sp = true → s.mapped (s.sp + 1) = true →
      pop16 s rest = rest (s.byteAt (s.sp + 1) ++ s.byteAt s.sp) { s with sp := s.sp + 2 }) ∧
    (s.mapped s.sp = false → pop16 s rest = .fault (.busFault s.sp .read)) ∧
    (s.mapped s.sp = true → s.mapped (s.sp + 1) = false → pop16 s rest = .fault (.busFault (s.sp + 1) .read)))

/-- R156, R158 and R159: PUSH of each pair: the high byte at SP - 1, then the low byte at SP - 2, and where it faults.
The last two clauses name the first of the two addresses that is unmapped. -/
def Obligations.PushWritesHighThenLow : Prop :=
  ∀ (s : State) (p : PairView),
    encode (Form.push p).instr = [BitVec.ofNat 8 (0xC5 + 16 * p.sel)] ∧
    (s.mapped (s.sp - 1) = true → s.mapped (s.sp - 2) = true →
      exec (Form.push p).instr s = .next
        { (s.storeByte (s.sp - 1) (BitVec.ofNat 8 ((s.getPair p).toNat / 256))).storeByte (s.sp - 2)
            (BitVec.ofNat 8 (s.getPair p).toNat) with
          sp := s.sp - 2, pc := s.pc + 1 }) ∧
    (s.mapped (s.sp - 1) = false → exec (Form.push p).instr s = .fault (.busFault (s.sp - 1) .write)) ∧
    (s.mapped (s.sp - 1) = true → s.mapped (s.sp - 2) = false →
      exec (Form.push p).instr s = .fault (.busFault (s.sp - 2) .write))

/-- R157, R160 and R161: POP of each pair: the low byte from SP, then the high byte from SP + 1; POP AF takes the flags
from bits 7 to 4 of the low byte. Memory is as before. -/
def Obligations.PopReadsLowThenHigh : Prop :=
  ∀ (s : State) (p : PairView),
    encode (Form.pop p).instr = [BitVec.ofNat 8 (0xC1 + 16 * p.sel)] ∧
    (s.mapped s.sp = true → s.mapped (s.sp + 1) = true →
      exec (Form.pop p).instr s = .next
        (let lo := s.byteAt s.sp
         let hi := s.byteAt (s.sp + 1)
         match p with
         | .bc => { s with b := hi, c := lo, sp := s.sp + 2, pc := s.pc + 1 }
         | .de => { s with d := hi, e := lo, sp := s.sp + 2, pc := s.pc + 1 }
         | .hl => { s with h := hi, l := lo, sp := s.sp + 2, pc := s.pc + 1 }
         | .af =>
           { s with
             a := hi
             flags := { z := lo.getLsbD 7, n := lo.getLsbD 6, h := lo.getLsbD 5, c := lo.getLsbD 4 }
             sp := s.sp + 2, pc := s.pc + 1 })) ∧
    (s.mapped s.sp = false → exec (Form.pop p).instr s = .fault (.busFault s.sp .read)) ∧
    (s.mapped s.sp = true → s.mapped (s.sp + 1) = false →
      exec (Form.pop p).instr s = .fault (.busFault (s.sp + 1) .read))

/-- R169, first half: PUSH of a pair and then POP into a pair brings the value back, with SP as it was; AF loses the low
nibble. The spec marks the rule as derived. -/
def Obligations.PushThenPopRoundTrip : Prop :=
  ∀ (s t : State) (p q : PairView), exec (Form.push p).instr s = .next t →
    ∃ u, exec (Form.pop q).instr t = .next u ∧ u.sp = s.sp ∧
      (q ≠ .af → u.getPair q = s.getPair p) ∧ (q = .af → u.getPair .af = s.getPair p &&& 0xFFF0)

/-- R162 and R163: JP and JP cc (the spec's decisions D17 and D18). The operand of a jump not taken is not read. -/
def Obligations.JumpToOperand : Prop :=
  ∀ (s : State) (i : Instr) (taken : Bool),
    (i, taken) ∈ [(.jp_nn, true), (.jp_NZ_nn, !s.flags.z), (.jp_Z_nn, s.flags.z), (.jp_NC_nn, !s.flags.c),
      (.jp_C_nn, s.flags.c)] →
    (taken = true → s.mapped (s.pc + 1) = true → s.mapped (s.pc + 2) = true →
      exec i s = .next { s with pc := s.byteAt (s.pc + 2) ++ s.byteAt (s.pc + 1) }) ∧
    (taken = false → exec i s = .next { s with pc := s.pc + 3 }) ∧
    (taken = true → s.mapped (s.pc + 1) = false → exec i s = .fault (.busFault (s.pc + 1) .fetch)) ∧
    (taken = true → s.mapped (s.pc + 1) = true → s.mapped (s.pc + 2) = false →
      exec i s = .fault (.busFault (s.pc + 2) .fetch))

/-- R164 and R165: CALL and CALL cc. The push comes first and the operand is read from the memory after it (the spec's
decision D18), so a stack on the operand changes the target (R291). -/
def Obligations.CallPushesThenReadsTarget : Prop :=
  ∀ (s : State) (i : Instr) (taken : Bool),
    (i, taken) ∈ [(.call_nn, true), (.call_NZ_nn, !s.flags.z), (.call_Z_nn, s.flags.z), (.call_NC_nn, !s.flags.c),
      (.call_C_nn, s.flags.c)] →
    let pushed : State :=
      { (s.storeByte (s.sp - 1) (BitVec.ofNat 8 ((s.pc + 3).toNat / 256))).storeByte (s.sp - 2)
          (BitVec.ofNat 8 (s.pc + 3).toNat) with
        sp := s.sp - 2 }
    (taken = false → exec i s = .next { s with pc := s.pc + 3 }) ∧
    (taken = true → s.mapped (s.sp - 1) = true → s.mapped (s.sp - 2) = true →
      s.mapped (s.pc + 1) = true → s.mapped (s.pc + 2) = true →
      exec i s = .next { pushed with pc := pushed.byteAt (s.pc + 2) ++ pushed.byteAt (s.pc + 1) }) ∧
    (taken = true → s.mapped (s.sp - 1) = false → exec i s = .fault (.busFault (s.sp - 1) .write)) ∧
    (taken = true → s.mapped (s.sp - 1) = true → s.mapped (s.sp - 2) = false →
      exec i s = .fault (.busFault (s.sp - 2) .write)) ∧
    (taken = true → s.mapped (s.sp - 1) = true → s.mapped (s.sp - 2) = true → s.mapped (s.pc + 1) = false →
      exec i s = .fault (.busFault (s.pc + 1) .fetch)) ∧
    (taken = true → s.mapped (s.sp - 1) = true → s.mapped (s.sp - 2) = true → s.mapped (s.pc + 1) = true →
      s.mapped (s.pc + 2) = false → exec i s = .fault (.busFault (s.pc + 2) .fetch))

/-- R166 and R167, with the conditions of R155: RET and RET cc. -/
def Obligations.ReturnToPoppedWord : Prop :=
  ∀ (s : State) (i : Instr) (op : Byte) (taken : Bool),
    (i, op, taken) ∈ [(.ret, 0xC9, true), (.ret_NZ, 0xC0, !s.flags.z), (.ret_Z, 0xC8, s.flags.z),
      (.ret_NC, 0xD0, !s.flags.c), (.ret_C, 0xD8, s.flags.c)] →
    encode i = [op] ∧
    (taken = true → s.mapped s.sp = true → s.mapped (s.sp + 1) = true →
      exec i s = .next { s with pc := s.byteAt (s.sp + 1) ++ s.byteAt s.sp, sp := s.sp + 2 }) ∧
    (taken = false → exec i s = .next { s with pc := s.pc + 1 }) ∧
    (taken = true → s.mapped s.sp = false → exec i s = .fault (.busFault s.sp .read)) ∧
    (taken = true → s.mapped s.sp = true → s.mapped (s.sp + 1) = false →
      exec i s = .fault (.busFault (s.sp + 1) .read))

/-- R169, second half (which the spec marks as derived): a RET at the target of a CALL returns to the byte after the
CALL's operand, with SP as it was. -/
def Obligations.CallThenReturn : Prop :=
  ∀ s t : State, exec .call_nn s = .next t →
    ∃ u, exec .ret t = .next u ∧ u.pc = s.pc + 3 ∧ u.sp = s.sp

/-! ### Loads -/

/-- R175, R176 and R177: the loads into a register. -/
def Obligations.LoadIntoRegister : Prop :=
  ∀ (s : State) (dst r : Reg8),
    encode (Form.ldReg dst r).instr = [BitVec.ofNat 8 (0x40 + 8 * dst.sel + r.sel)] ∧
    encode (Form.ldImm dst).instr = [BitVec.ofNat 8 (0x06 + 8 * dst.sel)] ∧
    encode (Form.ldMem dst).instr = [BitVec.ofNat 8 (0x46 + 8 * dst.sel)] ∧
    exec (Form.ldReg dst r).instr s = .next { s.setReg dst (s.getReg r) with pc := s.pc + 1 } ∧
    (s.mapped (s.pc + 1) = true →
      exec (Form.ldImm dst).instr s = .next { s.setReg dst (s.byteAt (s.pc + 1)) with pc := s.pc + 2 }) ∧
    (s.mapped (s.pc + 1) = false → exec (Form.ldImm dst).instr s = .fault (.busFault (s.pc + 1) .fetch)) ∧
    (s.mapped s.hl = true →
      exec (Form.ldMem dst).instr s = .next { s.setReg dst (s.byteAt s.hl) with pc := s.pc + 1 }) ∧
    (s.mapped s.hl = false → exec (Form.ldMem dst).instr s = .fault (.busFault s.hl .read))

/-- R178 and R179: the stores to the memory byte at HL. -/
def Obligations.StoreToMemoryAtHl : Prop :=
  ∀ (s : State) (r : Reg8),
    encode (Form.stReg r).instr = [BitVec.ofNat 8 (0x70 + r.sel)] ∧ encode Form.stImm.instr = [0x36] ∧
    (s.mapped s.hl = true →
      exec (Form.stReg r).instr s = .next { s.storeByte s.hl (s.getReg r) with pc := s.pc + 1 }) ∧
    (s.mapped s.hl = false → exec (Form.stReg r).instr s = .fault (.busFault s.hl .write)) ∧
    (s.mapped (s.pc + 1) = true → s.mapped s.hl = true →
      exec Form.stImm.instr s = .next { s.storeByte s.hl (s.byteAt (s.pc + 1)) with pc := s.pc + 2 }) ∧
    (s.mapped (s.pc + 1) = false → exec Form.stImm.instr s = .fault (.busFault (s.pc + 1) .fetch)) ∧
    (s.mapped (s.pc + 1) = true → s.mapped s.hl = false →
      exec Form.stImm.instr s = .fault (.busFault s.hl .write))

/-! ### NOP, HALT and the accumulator rotates -/

/-- R185 and R186: NOP advances PC alone; HALT sets the halted flag and advances PC by its own width, and every later
step changes nothing (the spec's decisions D4, D12, D13). A run here is one in which the host writes nothing between the
steps (log 11). -/
def Obligations.NopAndHalt : Prop :=
  ∀ s : State,
    exec .nop s = .next { s with pc := s.pc + 1 } ∧
    exec .halt s = .next { s with halted := true, pc := s.pc + 1 } ∧
    (s.faulted = false → ∀ t, exec .halt s = .next t → ∀ n, Sys2Proof.core.run n t = .next t)

/-- R190 to R193 (from general knowledge by the spec's own mark): the accumulator rotates; Z is always false. -/
def Obligations.AccumulatorRotates : Prop :=
  ∀ s : State,
    let post (w : Byte) (out : Bool) : State :=
      { s with a := w, flags := { z := false, n := false, h := false, c := out }, pc := s.pc + 1 }
    exec .rlca s = .next (post (s.a.rotateLeft 1) s.a.msb) ∧
    exec .rrca s = .next (post (s.a.rotateRight 1) (s.a.getLsbD 0)) ∧
    exec .rla s = .next (post (BitVec.ofNat 8 (2 * s.a.toNat + s.flags.c.toNat)) s.a.msb) ∧
    exec .rra s = .next (post (BitVec.ofNat 8 (s.a.toNat / 2 + 128 * s.flags.c.toNat)) (s.a.getLsbD 0))

/-! ### The secondary space -/

/-- R200 to R217 (from general knowledge by the spec's own mark): the eight shifts on a register and on the byte at HL,
with the result and the carry of each kind. The (HL) form writes the byte back even where it does not change. -/
def Obligations.SecondaryShifts : Prop :=
  ∀ (s : State) (k : ShiftKind),
    let result (v : Byte) : Byte :=
      match k with
      | .rlc => v.rotateLeft 1
      | .rrc => v.rotateRight 1
      | .rl => BitVec.ofNat 8 (2 * v.toNat + s.flags.c.toNat)
      | .rr => BitVec.ofNat 8 (v.toNat / 2 + 128 * s.flags.c.toNat)
      | .sla => v <<< 1
      | .sra => v.sshiftRight 1
      | .swap => v.rotateLeft 4
      | .srl => v >>> 1
    let out (v : Byte) : Bool :=
      match k with
      | .rlc | .rl | .sla => v.msb
      | .rrc | .rr | .sra | .srl => v.getLsbD 0
      | .swap => false
    let after (v : Byte) : Flags := { z := decide (result v = 0), n := false, h := false, c := out v }
    (∀ r, encode (Form.shiftReg k r).instr = [0xCB, BitVec.ofNat 8 (8 * k.sel + r.sel)] ∧
      exec (Form.shiftReg k r).instr s = .next
        { s.setReg r (result (s.getReg r)) with flags := after (s.getReg r), pc := s.pc + 2 }) ∧
    encode (Form.shiftMem k).instr = [0xCB, BitVec.ofNat 8 (8 * k.sel + 6)] ∧
    (s.mapped s.hl = true →
      exec (Form.shiftMem k).instr s = .next
        { s.storeByte s.hl (result (s.byteAt s.hl)) with flags := after (s.byteAt s.hl), pc := s.pc + 2 }) ∧
    (s.mapped s.hl = false → exec (Form.shiftMem k).instr s = .fault (.busFault s.hl .read))

/-- R218 and R219 (from general knowledge by the spec's own mark): BIT b: Z is the complement of the bit, N clear, H
set, C kept, no register and no memory written. -/
def Obligations.BitTest : Prop :=
  ∀ (s : State) (b : BitIdx),
    let post (v : Byte) : State :=
      { s with
        flags := { z := decide (v.toNat / 2 ^ b.num % 2 = 0), n := false, h := true, c := s.flags.c }
        pc := s.pc + 2 }
    (∀ r, encode (Form.bitReg b r).instr = [0xCB, BitVec.ofNat 8 (0x40 + 8 * b.num + r.sel)] ∧
      exec (Form.bitReg b r).instr s = .next (post (s.getReg r))) ∧
    encode (Form.bitMem b).instr = [0xCB, BitVec.ofNat 8 (0x46 + 8 * b.num)] ∧
    (s.mapped s.hl = true → exec (Form.bitMem b).instr s = .next (post (s.byteAt s.hl))) ∧
    (s.mapped s.hl = false → exec (Form.bitMem b).instr s = .fault (.busFault s.hl .read))

/-- R220 to R223 (from general knowledge by the spec's own mark): RES b and SET b: bit `b` takes its value, every other
bit of the operand stays, no flag changes. `on` is false for RES and true for SET. -/
def Obligations.BitResetAndSet : Prop :=
  ∀ (s : State) (b : BitIdx) (on : Bool),
    let regForm (r : Reg8) : Form := if on then .setReg b r else .resReg b r
    let memForm : Form := if on then .setMem b else .resMem b
    let base : Nat := if on then 0xC0 else 0x80
    let good (v w : Byte) : Prop := ∀ k, k < 8 → w.getLsbD k = if k = b.num then on else v.getLsbD k
    (∀ r, encode (regForm r).instr = [0xCB, BitVec.ofNat 8 (base + 8 * b.num + r.sel)] ∧
      ∃ w, good (s.getReg r) w ∧ exec (regForm r).instr s = .next { s.setReg r w with pc := s.pc + 2 }) ∧
    encode memForm.instr = [0xCB, BitVec.ofNat 8 (base + 8 * b.num + 6)] ∧
    (s.mapped s.hl = true →
      ∃ w, good (s.byteAt s.hl) w ∧ exec memForm.instr s = .next { s.storeByte s.hl w with pc := s.pc + 2 }) ∧
    (s.mapped s.hl = false → exec memForm.instr s = .fault (.busFault s.hl .read))

/-! ### Frames -/

/-- Instructions of the forms that store nothing leave every byte of memory and the whole video device as they were. -/
def Obligations.NonStoringInstructionsKeepMemory : Prop :=
  ∀ (i : Instr) (s t : State), formStoresNothing i.form = true → exec i s = .next t →
    (∀ x, t.byteAt x = s.byteAt x) ∧ t.vram = s.vram ∧ t.tiles = s.tiles ∧ t.hostMem = s.hostMem

/-- Instructions that write the memory operand (HL) change the one byte at the address in HL, as it was before the
instruction; of the tile set at most the row that byte lies in; no 8-bit register and not SP. -/
def Obligations.StoreAtHlFrame : Prop :=
  ∀ (i : Instr) (s t : State), formStoresAtHl i.form = true → exec i s = .next t →
    (∀ x, x ≠ s.hl → t.byteAt x = s.byteAt x) ∧
    (∀ n r, n < 384 → r < 8 → ¬ (s.hl.toNat < 0x9800 ∧ 0x8000 ≤ s.hl.toNat ∧ n = (s.hl.toNat - 0x8000) / 16 ∧
      r = (s.hl.toNat - 0x8000) % 16 / 2) → t.tileRowAt n r = s.tileRowAt n r) ∧
    (∀ r, t.getReg r = s.getReg r) ∧ t.sp = s.sp ∧ t.halted = s.halted ∧ t.faulted = s.faulted

/-- PUSH, CALL and CALL cc change at most the two bytes below SP, at SP - 1 and SP - 2, and no 8-bit register and no
flag. -/
def Obligations.PushFrame : Prop :=
  ∀ (i : Instr) (s t : State), formPushes i.form = true → exec i s = .next t →
    (∀ x, x ≠ s.sp - 1 → x ≠ s.sp - 2 → t.byteAt x = s.byteAt x) ∧
    (∀ r, t.getReg r = s.getReg r) ∧ t.flags = s.flags ∧ t.halted = s.halted ∧ t.faulted = s.faulted

/-- Every instruction leaves alone the 8-bit registers that are not its destinations, and SP unless it works the stack
or names SP. The row of the byte 0xCB stands aside: it runs another row. -/
def Obligations.RegisterFrame : Prop :=
  ∀ (i : Instr) (s t : State), i ≠ .prefix_CB → exec i s = .next t →
    (∀ r, r ∉ formDests i.form → t.getReg r = s.getReg r) ∧ (formMovesSp i.form = false → t.sp = s.sp)

/-- R29: how far an instruction moves PC: by its own length where it is no transfer, by 3 for a JP or CALL not taken, by
1 for a RET not taken, to the operand for a JP or CALL taken, to the popped word for a RET taken; an unrecognized byte
and a halted step do not move it. The operand of a CALL is the one in memory after its push. -/
def Obligations.ProgramCounterAdvance : Prop :=
  (∀ (i : Instr) (s t : State) (n : Nat), i ≠ .prefix_CB → formTransfers i.form = false → i.length = some n →
    exec i s = .next t → t.pc = s.pc + BitVec.ofNat 16 n) ∧
  (∀ (i : Instr) (s t : State), i.isUnrecognized = true → exec i s = .next t → t.pc = s.pc) ∧
  (∀ (cc : Cond) (s t : State), condHolds cc s.flags = false →
    (exec (Form.jpCc cc).instr s = .next t ∨ exec (Form.callCc cc).instr s = .next t → t.pc = s.pc + 3) ∧
    (exec (Form.retCc cc).instr s = .next t → t.pc = s.pc + 1)) ∧
  (∀ (cc : Cond) (s t : State),
    exec .jp_nn s = .next t ∨ exec .call_nn s = .next t ∨
      condHolds cc s.flags = true ∧
        (exec (Form.jpCc cc).instr s = .next t ∨ exec (Form.callCc cc).instr s = .next t) →
    t.pc = t.byteAt (s.pc + 2) ++ t.byteAt (s.pc + 1)) ∧
  (∀ (cc : Cond) (s t : State),
    exec .ret s = .next t ∨ condHolds cc s.flags = true ∧ exec (Form.retCc cc).instr s = .next t →
    t.pc = s.byteAt (s.sp + 1) ++ s.byteAt s.sp) ∧
  (∀ s t : State, s.halted = true → step s = .next t → t.pc = s.pc)

/-! ### Stops and completion -/

/-- The only ways an instruction stops (R253): a BusFault at an address the instruction accesses (R251), or the byte of
an unrecognized row under UNDEF_POLICY = fatal. No instruction is refused. -/
def Obligations.OnlyListedConditionsStop : Prop :=
  ∀ (i : Instr) (s : State),
    (∀ why, exec i s ≠ .refused why) ∧
    (∀ w, exec i s = .fault w →
      (∃ x k, w = .busFault x k ∧ s.mapped x = false ∧
        x ∈ [s.pc + 1, s.pc + 2, s.hl, s.sp, s.sp + 1, s.sp - 1, s.sp - 2]) ∨
      (∃ op, w = .undefinedOpcode op s.pc ∧ s.params.undefPolicy = .fatal ∧ i.isUnrecognized = true))

/-- Every row of the opcode table completes where every address is mapped and an unrecognized byte is inert: the setting
of the test vectors, HOST_REGION = FLAT and UNDEF_POLICY = inert. -/
def Obligations.EveryInstructionCompletesWhereMapped : Prop :=
  ∀ (i : Instr) (s : State), (∀ x, s.mapped x = true) → s.params.undefPolicy = .inert → ∃ t, exec i s = .next t

/-! ### The host's ports -/

/-- R231 and R243: the host's video port runs the device's own operations, refuses an offset above 0x1FFF with no effect
(the spec's decision D29), and reads a tile pixel as the device stored it. -/
def Obligations.HostVideoPort : Prop :=
  ∀ (s : State) (o : Nat) (v : Byte),
    (o ≤ 0x1FFF → hostAct (.videoWrite o v) s = .next (s.videoWrite o v) ∧ hostVideoRead s o = some (s.videoRead o) ∧
      ∀ x : Word, x.toNat = 0x8000 + o → s.storeByte x v = s.videoWrite o v ∧ s.byteAt x = s.videoRead o) ∧
    (0x1FFF < o → hostAct (.videoWrite o v) s = .refused (.videoOffset o) ∧ hostVideoRead s o = none) ∧
    (s.tilesConsistent → ∀ (t : Fin 384) (r c : Fin 8),
      (hostTileRead s t r c).toNat =
        2 * ((s.videoRead (16 * t.val + 2 * r.val + 1)).getLsbD (7 - c.val)).toNat +
          ((s.videoRead (16 * t.val + 2 * r.val)).getLsbD (7 - c.val)).toNat)

/-- R263: Execute runs an instruction of the set in the current state without a fetch, and is inert when halted. That it
answers machineFaulted when faulted is the model's choice (log 5). A value that is no instruction of the set, one of the
55 unrecognized rows or the byte 0xCB by itself (log 6), is inert (U15), and so, in the model's reading, is one of a
family that UNSPEC_FAMILIES = refuse makes unrecognized (log 4, log 10). -/
def Obligations.ExecuteRunsWithoutFetch : Prop :=
  ∀ (s : State) (i : Instr),
    (s.faulted = true → hostAct (.execute i) s = .fault .machineFaulted) ∧
    (s.faulted = false → s.halted = true → hostAct (.execute i) s = .next s) ∧
    (s.faulted = false → s.halted = false →
      (i.wellFormed = true → s.params.unspecFamilies = .sm83 → hostAct (.execute i) s = exec i s) ∧
      (i.wellFormed = false → hostAct (.execute i) s = .next s) ∧
      (∀ (op : Byte) (rest : List Byte), i.wellFormed = true → s.params.unspecFamilies = .refuse →
        encode i = op :: rest →
        (unspecByte op = true → hostAct (.execute i) s = .next s) ∧
        (unspecByte op = false → hostAct (.execute i) s = exec i s)))
end

