-- ==== Sys2Proof/Laws/State.lean ====
section
/-! SUPPORT. The small lemmas of State: for each named update, each field it leaves alone, so that no later proof unfolds
a record update. -/

namespace Sys2Proof.Machine

@[simp] theorem State.setReg_flags (s : State) (r : Reg8) (v : Byte) : (s.setReg r v).flags = s.flags := by cases r <;> rfl
@[simp] theorem State.setReg_pc (s : State) (r : Reg8) (v : Byte) : (s.setReg r v).pc = s.pc := by cases r <;> rfl
@[simp] theorem State.setReg_sp (s : State) (r : Reg8) (v : Byte) : (s.setReg r v).sp = s.sp := by cases r <;> rfl
@[simp] theorem State.setReg_halted (s : State) (r : Reg8) (v : Byte) : (s.setReg r v).halted = s.halted := by cases r <;> rfl
@[simp] theorem State.setReg_faulted (s : State) (r : Reg8) (v : Byte) : (s.setReg r v).faulted = s.faulted := by cases r <;> rfl
@[simp] theorem State.setReg_vram (s : State) (r : Reg8) (v : Byte) : (s.setReg r v).vram = s.vram := by cases r <;> rfl
@[simp] theorem State.setReg_tiles (s : State) (r : Reg8) (v : Byte) : (s.setReg r v).tiles = s.tiles := by cases r <;> rfl
@[simp] theorem State.setReg_hostMem (s : State) (r : Reg8) (v : Byte) : (s.setReg r v).hostMem = s.hostMem := by cases r <;> rfl
@[simp] theorem State.setReg_params (s : State) (r : Reg8) (v : Byte) : (s.setReg r v).params = s.params := by cases r <;> rfl

@[simp] theorem State.setPair_pc (s : State) (p : PairView) (v : Word) : (s.setPair p v).pc = s.pc := by cases p <;> rfl
@[simp] theorem State.setPair_sp (s : State) (p : PairView) (v : Word) : (s.setPair p v).sp = s.sp := by cases p <;> rfl
@[simp] theorem State.setPair_halted (s : State) (p : PairView) (v : Word) : (s.setPair p v).halted = s.halted := by cases p <;> rfl
@[simp] theorem State.setPair_faulted (s : State) (p : PairView) (v : Word) : (s.setPair p v).faulted = s.faulted := by cases p <;> rfl
@[simp] theorem State.setPair_vram (s : State) (p : PairView) (v : Word) : (s.setPair p v).vram = s.vram := by cases p <;> rfl
@[simp] theorem State.setPair_tiles (s : State) (p : PairView) (v : Word) : (s.setPair p v).tiles = s.tiles := by cases p <;> rfl
@[simp] theorem State.setPair_hostMem (s : State) (p : PairView) (v : Word) : (s.setPair p v).hostMem = s.hostMem := by cases p <;> rfl
@[simp] theorem State.setPair_params (s : State) (p : PairView) (v : Word) : (s.setPair p v).params = s.params := by cases p <;> rfl

@[simp] theorem State.setSel_flags (s : State) (p : PairSel) (v : Word) : (s.setSel p v).flags = s.flags := by cases p <;> rfl
@[simp] theorem State.setSel_pc (s : State) (p : PairSel) (v : Word) : (s.setSel p v).pc = s.pc := by cases p <;> rfl
@[simp] theorem State.setSel_halted (s : State) (p : PairSel) (v : Word) : (s.setSel p v).halted = s.halted := by cases p <;> rfl
@[simp] theorem State.setSel_faulted (s : State) (p : PairSel) (v : Word) : (s.setSel p v).faulted = s.faulted := by cases p <;> rfl
@[simp] theorem State.setSel_vram (s : State) (p : PairSel) (v : Word) : (s.setSel p v).vram = s.vram := by cases p <;> rfl
@[simp] theorem State.setSel_tiles (s : State) (p : PairSel) (v : Word) : (s.setSel p v).tiles = s.tiles := by cases p <;> rfl
@[simp] theorem State.setSel_hostMem (s : State) (p : PairSel) (v : Word) : (s.setSel p v).hostMem = s.hostMem := by cases p <;> rfl
@[simp] theorem State.setSel_params (s : State) (p : PairSel) (v : Word) : (s.setSel p v).params = s.params := by cases p <;> rfl

@[simp] theorem State.setPc_a (s : State) (v : Word) : (s.setPc v).a = s.a := rfl
@[simp] theorem State.setPc_b (s : State) (v : Word) : (s.setPc v).b = s.b := rfl
@[simp] theorem State.setPc_c (s : State) (v : Word) : (s.setPc v).c = s.c := rfl
@[simp] theorem State.setPc_d (s : State) (v : Word) : (s.setPc v).d = s.d := rfl
@[simp] theorem State.setPc_e (s : State) (v : Word) : (s.setPc v).e = s.e := rfl
@[simp] theorem State.setPc_h (s : State) (v : Word) : (s.setPc v).h = s.h := rfl
@[simp] theorem State.setPc_l (s : State) (v : Word) : (s.setPc v).l = s.l := rfl
@[simp] theorem State.setPc_flags (s : State) (v : Word) : (s.setPc v).flags = s.flags := rfl
@[simp] theorem State.setPc_sp (s : State) (v : Word) : (s.setPc v).sp = s.sp := rfl
@[simp] theorem State.setPc_halted (s : State) (v : Word) : (s.setPc v).halted = s.halted := rfl
@[simp] theorem State.setPc_faulted (s : State) (v : Word) : (s.setPc v).faulted = s.faulted := rfl
@[simp] theorem State.setPc_vram (s : State) (v : Word) : (s.setPc v).vram = s.vram := rfl
@[simp] theorem State.setPc_tiles (s : State) (v : Word) : (s.setPc v).tiles = s.tiles := rfl
@[simp] theorem State.setPc_hostMem (s : State) (v : Word) : (s.setPc v).hostMem = s.hostMem := rfl
@[simp] theorem State.setPc_params (s : State) (v : Word) : (s.setPc v).params = s.params := rfl

@[simp] theorem State.setSp_a (s : State) (v : Word) : (s.setSp v).a = s.a := rfl
@[simp] theorem State.setSp_b (s : State) (v : Word) : (s.setSp v).b = s.b := rfl
@[simp] theorem State.setSp_c (s : State) (v : Word) : (s.setSp v).c = s.c := rfl
@[simp] theorem State.setSp_d (s : State) (v : Word) : (s.setSp v).d = s.d := rfl
@[simp] theorem State.setSp_e (s : State) (v : Word) : (s.setSp v).e = s.e := rfl
@[simp] theorem State.setSp_h (s : State) (v : Word) : (s.setSp v).h = s.h := rfl
@[simp] theorem State.setSp_l (s : State) (v : Word) : (s.setSp v).l = s.l := rfl
@[simp] theorem State.setSp_flags (s : State) (v : Word) : (s.setSp v).flags = s.flags := rfl
@[simp] theorem State.setSp_pc (s : State) (v : Word) : (s.setSp v).pc = s.pc := rfl
@[simp] theorem State.setSp_halted (s : State) (v : Word) : (s.setSp v).halted = s.halted := rfl
@[simp] theorem State.setSp_faulted (s : State) (v : Word) : (s.setSp v).faulted = s.faulted := rfl
@[simp] theorem State.setSp_vram (s : State) (v : Word) : (s.setSp v).vram = s.vram := rfl
@[simp] theorem State.setSp_tiles (s : State) (v : Word) : (s.setSp v).tiles = s.tiles := rfl
@[simp] theorem State.setSp_hostMem (s : State) (v : Word) : (s.setSp v).hostMem = s.hostMem := rfl
@[simp] theorem State.setSp_params (s : State) (v : Word) : (s.setSp v).params = s.params := rfl

@[simp] theorem State.setFlags_a (s : State) (f : Flags) : (s.setFlags f).a = s.a := rfl
@[simp] theorem State.setFlags_b (s : State) (f : Flags) : (s.setFlags f).b = s.b := rfl
@[simp] theorem State.setFlags_c (s : State) (f : Flags) : (s.setFlags f).c = s.c := rfl
@[simp] theorem State.setFlags_d (s : State) (f : Flags) : (s.setFlags f).d = s.d := rfl
@[simp] theorem State.setFlags_e (s : State) (f : Flags) : (s.setFlags f).e = s.e := rfl
@[simp] theorem State.setFlags_h (s : State) (f : Flags) : (s.setFlags f).h = s.h := rfl
@[simp] theorem State.setFlags_l (s : State) (f : Flags) : (s.setFlags f).l = s.l := rfl
@[simp] theorem State.setFlags_pc (s : State) (f : Flags) : (s.setFlags f).pc = s.pc := rfl
@[simp] theorem State.setFlags_sp (s : State) (f : Flags) : (s.setFlags f).sp = s.sp := rfl
@[simp] theorem State.setFlags_halted (s : State) (f : Flags) : (s.setFlags f).halted = s.halted := rfl
@[simp] theorem State.setFlags_faulted (s : State) (f : Flags) : (s.setFlags f).faulted = s.faulted := rfl
@[simp] theorem State.setFlags_vram (s : State) (f : Flags) : (s.setFlags f).vram = s.vram := rfl
@[simp] theorem State.setFlags_tiles (s : State) (f : Flags) : (s.setFlags f).tiles = s.tiles := rfl
@[simp] theorem State.setFlags_hostMem (s : State) (f : Flags) : (s.setFlags f).hostMem = s.hostMem := rfl
@[simp] theorem State.setFlags_params (s : State) (f : Flags) : (s.setFlags f).params = s.params := rfl

@[simp] theorem State.advance_a (s : State) (n : Word) : (s.advance n).a = s.a := rfl
@[simp] theorem State.advance_b (s : State) (n : Word) : (s.advance n).b = s.b := rfl
@[simp] theorem State.advance_c (s : State) (n : Word) : (s.advance n).c = s.c := rfl
@[simp] theorem State.advance_d (s : State) (n : Word) : (s.advance n).d = s.d := rfl
@[simp] theorem State.advance_e (s : State) (n : Word) : (s.advance n).e = s.e := rfl
@[simp] theorem State.advance_h (s : State) (n : Word) : (s.advance n).h = s.h := rfl
@[simp] theorem State.advance_l (s : State) (n : Word) : (s.advance n).l = s.l := rfl
@[simp] theorem State.advance_flags (s : State) (n : Word) : (s.advance n).flags = s.flags := rfl
@[simp] theorem State.advance_sp (s : State) (n : Word) : (s.advance n).sp = s.sp := rfl
@[simp] theorem State.advance_halted (s : State) (n : Word) : (s.advance n).halted = s.halted := rfl
@[simp] theorem State.advance_faulted (s : State) (n : Word) : (s.advance n).faulted = s.faulted := rfl
@[simp] theorem State.advance_vram (s : State) (n : Word) : (s.advance n).vram = s.vram := rfl
@[simp] theorem State.advance_tiles (s : State) (n : Word) : (s.advance n).tiles = s.tiles := rfl
@[simp] theorem State.advance_hostMem (s : State) (n : Word) : (s.advance n).hostMem = s.hostMem := rfl
@[simp] theorem State.advance_params (s : State) (n : Word) : (s.advance n).params = s.params := rfl

@[simp] theorem State.aluCommit_b (s : State) (o : AluOp) (v : Byte) : (s.aluCommit o v).b = s.b := rfl
@[simp] theorem State.aluCommit_c (s : State) (o : AluOp) (v : Byte) : (s.aluCommit o v).c = s.c := rfl
@[simp] theorem State.aluCommit_d (s : State) (o : AluOp) (v : Byte) : (s.aluCommit o v).d = s.d := rfl
@[simp] theorem State.aluCommit_e (s : State) (o : AluOp) (v : Byte) : (s.aluCommit o v).e = s.e := rfl
@[simp] theorem State.aluCommit_h (s : State) (o : AluOp) (v : Byte) : (s.aluCommit o v).h = s.h := rfl
@[simp] theorem State.aluCommit_l (s : State) (o : AluOp) (v : Byte) : (s.aluCommit o v).l = s.l := rfl
@[simp] theorem State.aluCommit_pc (s : State) (o : AluOp) (v : Byte) : (s.aluCommit o v).pc = s.pc := rfl
@[simp] theorem State.aluCommit_sp (s : State) (o : AluOp) (v : Byte) : (s.aluCommit o v).sp = s.sp := rfl
@[simp] theorem State.aluCommit_halted (s : State) (o : AluOp) (v : Byte) : (s.aluCommit o v).halted = s.halted := rfl
@[simp] theorem State.aluCommit_faulted (s : State) (o : AluOp) (v : Byte) : (s.aluCommit o v).faulted = s.faulted := rfl
@[simp] theorem State.aluCommit_vram (s : State) (o : AluOp) (v : Byte) : (s.aluCommit o v).vram = s.vram := rfl
@[simp] theorem State.aluCommit_tiles (s : State) (o : AluOp) (v : Byte) : (s.aluCommit o v).tiles = s.tiles := rfl
@[simp] theorem State.aluCommit_hostMem (s : State) (o : AluOp) (v : Byte) : (s.aluCommit o v).hostMem = s.hostMem := rfl
@[simp] theorem State.aluCommit_params (s : State) (o : AluOp) (v : Byte) : (s.aluCommit o v).params = s.params := rfl

@[simp] theorem State.recomputeRow_a (s : State) (o : Nat) : (s.recomputeRow o).a = s.a := rfl
@[simp] theorem State.recomputeRow_b (s : State) (o : Nat) : (s.recomputeRow o).b = s.b := rfl
@[simp] theorem State.recomputeRow_c (s : State) (o : Nat) : (s.recomputeRow o).c = s.c := rfl
@[simp] theorem State.recomputeRow_d (s : State) (o : Nat) : (s.recomputeRow o).d = s.d := rfl
@[simp] theorem State.recomputeRow_e (s : State) (o : Nat) : (s.recomputeRow o).e = s.e := rfl
@[simp] theorem State.recomputeRow_h (s : State) (o : Nat) : (s.recomputeRow o).h = s.h := rfl
@[simp] theorem State.recomputeRow_l (s : State) (o : Nat) : (s.recomputeRow o).l = s.l := rfl
@[simp] theorem State.recomputeRow_flags (s : State) (o : Nat) : (s.recomputeRow o).flags = s.flags := rfl
@[simp] theorem State.recomputeRow_pc (s : State) (o : Nat) : (s.recomputeRow o).pc = s.pc := rfl
@[simp] theorem State.recomputeRow_sp (s : State) (o : Nat) : (s.recomputeRow o).sp = s.sp := rfl
@[simp] theorem State.recomputeRow_halted (s : State) (o : Nat) : (s.recomputeRow o).halted = s.halted := rfl
@[simp] theorem State.recomputeRow_faulted (s : State) (o : Nat) : (s.recomputeRow o).faulted = s.faulted := rfl
@[simp] theorem State.recomputeRow_vram (s : State) (o : Nat) : (s.recomputeRow o).vram = s.vram := rfl
@[simp] theorem State.recomputeRow_hostMem (s : State) (o : Nat) : (s.recomputeRow o).hostMem = s.hostMem := rfl
@[simp] theorem State.recomputeRow_params (s : State) (o : Nat) : (s.recomputeRow o).params = s.params := rfl

@[simp] theorem State.videoWrite_a (s : State) (o : Nat) (v : Byte) : (s.videoWrite o v).a = s.a := by
  unfold State.videoWrite
  split <;> rfl
@[simp] theorem State.videoWrite_b (s : State) (o : Nat) (v : Byte) : (s.videoWrite o v).b = s.b := by
  unfold State.videoWrite
  split <;> rfl
@[simp] theorem State.videoWrite_c (s : State) (o : Nat) (v : Byte) : (s.videoWrite o v).c = s.c := by
  unfold State.videoWrite
  split <;> rfl
@[simp] theorem State.videoWrite_d (s : State) (o : Nat) (v : Byte) : (s.videoWrite o v).d = s.d := by
  unfold State.videoWrite
  split <;> rfl
@[simp] theorem State.videoWrite_e (s : State) (o : Nat) (v : Byte) : (s.videoWrite o v).e = s.e := by
  unfold State.videoWrite
  split <;> rfl
@[simp] theorem State.videoWrite_h (s : State) (o : Nat) (v : Byte) : (s.videoWrite o v).h = s.h := by
  unfold State.videoWrite
  split <;> rfl
@[simp] theorem State.videoWrite_l (s : State) (o : Nat) (v : Byte) : (s.videoWrite o v).l = s.l := by
  unfold State.videoWrite
  split <;> rfl
@[simp] theorem State.videoWrite_flags (s : State) (o : Nat) (v : Byte) : (s.videoWrite o v).flags = s.flags := by
  unfold State.videoWrite
  split <;> rfl
@[simp] theorem State.videoWrite_pc (s : State) (o : Nat) (v : Byte) : (s.videoWrite o v).pc = s.pc := by
  unfold State.videoWrite
  split <;> rfl
@[simp] theorem State.videoWrite_sp (s : State) (o : Nat) (v : Byte) : (s.videoWrite o v).sp = s.sp := by
  unfold State.videoWrite
  split <;> rfl
@[simp] theorem State.videoWrite_halted (s : State) (o : Nat) (v : Byte) : (s.videoWrite o v).halted = s.halted := by
  unfold State.videoWrite
  split <;> rfl
@[simp] theorem State.videoWrite_faulted (s : State) (o : Nat) (v : Byte) : (s.videoWrite o v).faulted = s.faulted := by
  unfold State.videoWrite
  split <;> rfl
@[simp] theorem State.videoWrite_hostMem (s : State) (o : Nat) (v : Byte) : (s.videoWrite o v).hostMem = s.hostMem := by
  unfold State.videoWrite
  split <;> rfl
@[simp] theorem State.videoWrite_params (s : State) (o : Nat) (v : Byte) : (s.videoWrite o v).params = s.params := by
  unfold State.videoWrite
  split <;> rfl

@[simp] theorem State.storeByte_a (s : State) (x : Word) (v : Byte) : (s.storeByte x v).a = s.a := by
  unfold State.storeByte
  split <;> simp
@[simp] theorem State.storeByte_b (s : State) (x : Word) (v : Byte) : (s.storeByte x v).b = s.b := by
  unfold State.storeByte
  split <;> simp
@[simp] theorem State.storeByte_c (s : State) (x : Word) (v : Byte) : (s.storeByte x v).c = s.c := by
  unfold State.storeByte
  split <;> simp
@[simp] theorem State.storeByte_d (s : State) (x : Word) (v : Byte) : (s.storeByte x v).d = s.d := by
  unfold State.storeByte
  split <;> simp
@[simp] theorem State.storeByte_e (s : State) (x : Word) (v : Byte) : (s.storeByte x v).e = s.e := by
  unfold State.storeByte
  split <;> simp
@[simp] theorem State.storeByte_h (s : State) (x : Word) (v : Byte) : (s.storeByte x v).h = s.h := by
  unfold State.storeByte
  split <;> simp
@[simp] theorem State.storeByte_l (s : State) (x : Word) (v : Byte) : (s.storeByte x v).l = s.l := by
  unfold State.storeByte
  split <;> simp
@[simp] theorem State.storeByte_flags (s : State) (x : Word) (v : Byte) : (s.storeByte x v).flags = s.flags := by
  unfold State.storeByte
  split <;> simp
@[simp] theorem State.storeByte_pc (s : State) (x : Word) (v : Byte) : (s.storeByte x v).pc = s.pc := by
  unfold State.storeByte
  split <;> simp
@[simp] theorem State.storeByte_sp (s : State) (x : Word) (v : Byte) : (s.storeByte x v).sp = s.sp := by
  unfold State.storeByte
  split <;> simp
@[simp] theorem State.storeByte_halted (s : State) (x : Word) (v : Byte) : (s.storeByte x v).halted = s.halted := by
  unfold State.storeByte
  split <;> simp
@[simp] theorem State.storeByte_faulted (s : State) (x : Word) (v : Byte) : (s.storeByte x v).faulted = s.faulted := by
  unfold State.storeByte
  split <;> simp
@[simp] theorem State.storeByte_params (s : State) (x : Word) (v : Byte) : (s.storeByte x v).params = s.params := by
  unfold State.storeByte
  split <;> simp

@[simp] theorem State.setPc_pc (s : State) (v : Word) : (s.setPc v).pc = v := rfl
@[simp] theorem State.setSp_sp (s : State) (v : Word) : (s.setSp v).sp = v := rfl
@[simp] theorem State.setFlags_flags (s : State) (f : Flags) : (s.setFlags f).flags = f := rfl
@[simp] theorem State.advance_pc (s : State) (n : Word) : (s.advance n).pc = s.pc + n := rfl
@[simp] theorem State.aluCommit_flags (s : State) (o : AluOp) (v : Byte) :
    (s.aluCommit o v).flags = (alu8 o s.a v s.flags.c).2 := rfl
@[simp] theorem State.setSel_sp (s : State) (p : PairSel) (v : Word) :
    (s.setSel p v).sp = if p = .sp then v else s.sp := by
  cases p <;> rfl

/-! ### Register reads after updates -/

/-- A register write is read back, and no other register moves. -/
theorem State.getReg_setReg (s : State) (r q : Reg8) (v : Byte) :
    (s.setReg r v).getReg q = if q = r then v else s.getReg q := by
  cases r <;> cases q <;> rfl

@[simp] theorem State.getReg_setPc (s : State) (v : Word) (r : Reg8) : (s.setPc v).getReg r = s.getReg r := by
  cases r <;> rfl

@[simp] theorem State.getReg_setSp (s : State) (v : Word) (r : Reg8) : (s.setSp v).getReg r = s.getReg r := by
  cases r <;> rfl

@[simp] theorem State.getReg_setFlags (s : State) (f : Flags) (r : Reg8) : (s.setFlags f).getReg r = s.getReg r := by
  cases r <;> rfl

@[simp] theorem State.getReg_advance (s : State) (n : Word) (r : Reg8) : (s.advance n).getReg r = s.getReg r := by
  cases r <;> rfl

@[simp] theorem State.getReg_storeByte (s : State) (x : Word) (v : Byte) (r : Reg8) :
    (s.storeByte x v).getReg r = s.getReg r := by
  cases r <;> simp [State.getReg]

/-! ### Pair views after updates -/

@[simp] theorem State.getPair_setPc (s : State) (v : Word) (p : PairView) : (s.setPc v).getPair p = s.getPair p := by
  cases p <;> rfl

@[simp] theorem State.getPair_setSp (s : State) (v : Word) (p : PairView) : (s.setSp v).getPair p = s.getPair p := by
  cases p <;> rfl

@[simp] theorem State.getPair_advance (s : State) (n : Word) (p : PairView) : (s.advance n).getPair p = s.getPair p := by
  cases p <;> rfl

@[simp] theorem State.getPair_storeByte (s : State) (x : Word) (v : Byte) (p : PairView) :
    (s.storeByte x v).getPair p = s.getPair p := by
  cases p <;> simp [State.getPair, State.fByte]

end Sys2Proof.Machine
end

