-- ==== Sys2Proof/Laws/Alu.lean ====
section
/-! SUPPORT. What each flag computation of Machine/Flags.lean gives, in plain arithmetic. -/

namespace Sys2Proof.Machine

theorem nibble_toNat (v : Byte) : (v &&& 0x0F).toNat = v.toNat % 16 := by
  have h : (0x0F : Byte).toNat = 2 ^ 4 - 1 := rfl
  rw [BitVec.toNat_and, h, Nat.and_two_pow_sub_one_eq_mod]

theorem low12_toNat (v : Word) : (v &&& 0x0FFF).toNat = v.toNat % 4096 := by
  have h : (0x0FFF : Word).toNat = 2 ^ 12 - 1 := rfl
  rw [BitVec.toNat_and, h, Nat.and_two_pow_sub_one_eq_mod]

theorem bit01_eq_toNat (b : Bool) : bit01 b = b.toNat := by cases b <;> rfl

/-- `Add8` of R110 in plain arithmetic. -/
theorem add8_eq (a b : Byte) (cin : Bool) :
    add8 a b cin =
      (BitVec.ofNat 8 (a.toNat + b.toNat + cin.toNat),
        { z := decide ((a.toNat + b.toNat + cin.toNat) % 256 = 0), n := false
          h := decide (a.toNat % 16 + b.toNat % 16 + cin.toNat > 15)
          c := decide (a.toNat + b.toNat + cin.toNat > 255) }) := by
  have hz : ∀ n : Nat, (BitVec.ofNat 8 n = 0) ↔ n % 256 = 0 := fun n => by
    rw [← BitVec.toNat_inj]; simp
  simp only [add8, bit01_eq_toNat, nibble_toNat, hz]

/-- `Add8` without a carry-in, in modular arithmetic. -/
theorem add8_false (a b : Byte) :
    add8 a b false =
      (a + b,
        { z := decide (a + b = 0), n := false
          h := decide (a.toNat % 16 + b.toNat % 16 > 15), c := decide (a.toNat + b.toNat > 255) }) := by
  have h : BitVec.ofNat 8 (a.toNat + b.toNat) = a + b := by
    apply BitVec.eq_of_toNat_eq; simp
  have h0 : bit01 false = 0 := rfl
  simp only [add8, h0, nibble_toNat, Nat.add_zero, h]

theorem ofInt_sub (a b : Byte) (n : Nat) :
    BitVec.ofInt 8 ((a.toNat : Int) - (b.toNat : Int) - (n : Int)) = a - b - BitVec.ofNat 8 n := by
  have h : ((a.toNat : Int) - (b.toNat : Int) - (n : Int)) = (a.toNat : Int) + (-(b.toNat : Int) + -(n : Int)) := by
    omega
  rw [h, BitVec.ofInt_add, BitVec.ofInt_add, BitVec.ofInt_neg, BitVec.ofInt_neg]
  simp only [BitVec.ofInt_natCast, BitVec.ofNat_toNat, BitVec.setWidth_eq]
  rw [BitVec.sub_eq_add_neg, BitVec.sub_eq_add_neg, BitVec.add_assoc]

/-- `Sub8` of R111 in modular arithmetic. -/
theorem sub8_eq (a b : Byte) (bin : Bool) :
    sub8 a b bin =
      (a - b - BitVec.ofNat 8 bin.toNat,
        { z := decide (a - b - BitVec.ofNat 8 bin.toNat = 0), n := true
          h := decide (a.toNat % 16 < b.toNat % 16 + bin.toNat)
          c := decide (a.toNat < b.toNat + bin.toNat) }) := by
  simp only [sub8, bit01_eq_toNat, nibble_toNat, ofInt_sub]

/-- `Sub8` without a borrow-in. -/
theorem sub8_false (a b : Byte) :
    sub8 a b false =
      (a - b,
        { z := decide (a = b), n := true
          h := decide (a.toNat % 16 < b.toNat % 16), c := decide (a.toNat < b.toNat) }) := by
  have h : (a - b = 0) ↔ a = b := by
    constructor
    · intro h; exact (BitVec.sub_eq_iff_eq_add.mp h).trans (BitVec.zero_add b)
    · rintro rfl; exact BitVec.sub_self a
  have h0 : a - b - BitVec.ofNat 8 (false.toNat) = a - b := BitVec.sub_zero _
  rw [sub8_eq, h0]
  simp only [h, Bool.toNat_false, Nat.add_zero]

/-- `Add16` of R140 in plain arithmetic. -/
theorem add16_eq (a b : Word) :
    add16 a b =
      (a + b, decide (a.toNat % 4096 + b.toNat % 4096 > 4095), decide (a.toNat + b.toNat > 65535)) := by
  have h : BitVec.ofNat 16 (a.toNat + b.toNat) = a + b := by
    apply BitVec.eq_of_toNat_eq; simp
  simp only [add16, low12_toNat, h]

/-- 8-bit increment (R143). -/
theorem inc8_eq (v : Byte) (f : Flags) :
    inc8 v f =
      (v + 1, { z := decide (v = 0xFF), n := false, h := decide (v.toNat % 16 = 15), c := f.c }) := by
  revert v f
  have key : ∀ v : Byte, (add8 v 1 false).1 = v + 1 ∧ (add8 v 1 false).2.z = decide (v = 0xFF) ∧
      (add8 v 1 false).2.n = false ∧ (add8 v 1 false).2.h = decide (v.toNat % 16 = 15) := by decide
  intro v f
  obtain ⟨h1, h2, h3, h4⟩ := key v
  simp only [inc8, h1, h2, h3, h4]

/-- 8-bit decrement (R145). -/
theorem dec8_eq (v : Byte) (f : Flags) :
    dec8 v f =
      (v - 1, { z := decide (v = 1), n := true, h := decide (v.toNat % 16 = 0), c := f.c }) := by
  revert v f
  have key : ∀ v : Byte, (sub8 v 1 false).1 = v - 1 ∧ (sub8 v 1 false).2.z = decide (v = 1) ∧
      (sub8 v 1 false).2.n = true ∧ (sub8 v 1 false).2.h = decide (v.toNat % 16 = 0) := by decide
  intro v f
  obtain ⟨h1, h2, h3, h4⟩ := key v
  simp only [dec8, h1, h2, h3, h4]

/-- The value and the carry of each shift kind, in arithmetic (R201). -/
theorem shift8_eq (k : ShiftKind) (v : Byte) (cin : Bool) :
    shift8 k v cin =
      (match k with
        | .rlc => (v.rotateLeft 1, v.msb)
        | .rrc => (v.rotateRight 1, v.getLsbD 0)
        | .rl => (BitVec.ofNat 8 (2 * v.toNat + cin.toNat), v.msb)
        | .rr => (BitVec.ofNat 8 (v.toNat / 2 + 128 * cin.toNat), v.getLsbD 0)
        | .sla => (v <<< 1, v.msb)
        | .sra => (v.sshiftRight 1, v.getLsbD 0)
        | .swap => (v.rotateLeft 4, false)
        | .srl => (v >>> 1, v.getLsbD 0)) := by
  revert v cin
  cases k <;> decide

/-- The eight-bit `Byte` with bit `b` cleared or set, bit by bit (R220, R222). -/
theorem getLsbD_resBit (b : BitIdx) (v : Byte) (k : Nat) (hk : k < 8) :
    (resBit b v).getLsbD k = if k = b.num then false else v.getLsbD k := by
  unfold resBit
  rw [BitVec.getLsbD_and, BitVec.getLsbD_not, BitVec.getLsbD_shiftLeft]
  cases b <;> interval_cases k <;> simp [BitIdx.num]

theorem getLsbD_setBit (b : BitIdx) (v : Byte) (k : Nat) (hk : k < 8) :
    (setBit b v).getLsbD k = if k = b.num then true else v.getLsbD k := by
  unfold setBit
  rw [BitVec.getLsbD_or, BitVec.getLsbD_shiftLeft]
  cases b <;> interval_cases k <;> simp [BitIdx.num]

/-- The flags byte holds the four flags in bits 7 to 4, and the low nibble is zero (R32). -/
theorem flagsByte_toNat (f : Flags) :
    (flagsByte f).toNat = 128 * f.z.toNat + 64 * f.n.toNat + 32 * f.h.toNat + 16 * f.c.toNat := by
  obtain ⟨z, n, h, c⟩ := f
  cases z <;> cases n <;> cases h <;> cases c <;> rfl

/-- Flags round trip (R33). -/
theorem flagsOfByte_flagsByte (f : Flags) : flagsOfByte (flagsByte f) = f := by
  obtain ⟨z, n, h, c⟩ := f
  cases z <;> cases n <;> cases h <;> cases c <;> rfl

theorem flagsByte_flagsOfByte (v : Byte) : flagsByte (flagsOfByte v) = v &&& 0xF0 := by
  revert v
  decide

/-- The number two bytes make, the high one first (R24). -/
theorem append_toNat (hi lo : Byte) : (hi ++ lo : Word).toNat = 256 * hi.toNat + lo.toNat := by
  rw [BitVec.toNat_append, ← Nat.shiftLeft_add_eq_or_of_lt lo.isLt, Nat.shiftLeft_eq]
  omega

/-- The high byte of a word (R25). -/
theorem highByte_eq (v : Word) : (v.extractLsb' 8 8 : Byte) = BitVec.ofNat 8 (v.toNat / 256) := by
  apply BitVec.eq_of_toNat_eq; simp [Nat.shiftRight_eq_div_pow]

/-- The low byte of a word (R25). -/
theorem lowByte_eq (v : Word) : (v.extractLsb' 0 8 : Byte) = BitVec.ofNat 8 v.toNat := by
  apply BitVec.eq_of_toNat_eq; simp

/-- The two bytes of a word make the word (R26). -/
theorem append_bytes (v : Word) : (v.extractLsb' 8 8 : Byte) ++ (v.extractLsb' 0 8 : Byte) = v := by
  apply BitVec.eq_of_toNat_eq
  rw [append_toNat, highByte_eq, lowByte_eq]
  simp
  omega

end Sys2Proof.Machine
end

