-- ==== Sys2Proof/Laws/Sparse.lean ====
section
/-! SUPPORT. The laws of the sparse lists: read after write for every list, canonical or not, and that every write keeps
the canonical form. -/

namespace Sys2Proof.Machine

variable {α : Type}

theorem sparseGet_erase (d : α) (m : List (Nat × α)) (i j : Nat) :
    sparseGet d (sparseErase m i) j = if j = i then d else sparseGet d m j := by
  induction m with
  | nil => simp [sparseErase, sparseGet]
  | cons e m ih =>
    obtain ⟨k, x⟩ := e
    by_cases hk : k = i
    · simp only [sparseErase, hk, if_true, ih, sparseGet]
      by_cases hj : j = i
      · simp [hj]
      · simp [hj, Ne.symm hj]
    · simp only [sparseErase, hk, if_false, sparseGet, ih]
      by_cases hj : k = j
      · subst hj; simp [hk]
      · simp [hj]

theorem sparseGet_insert (d : α) (m : List (Nat × α)) (i j : Nat) (v : α) :
    sparseGet d (sparseInsert m i v) j = if j = i then v else sparseGet d m j := by
  induction m with
  | nil =>
    by_cases hj : i = j
    · simp [sparseInsert, sparseGet, hj]
    · simp [sparseInsert, sparseGet, hj, Ne.symm hj]
  | cons e m ih =>
    obtain ⟨k, x⟩ := e
    unfold sparseInsert
    by_cases hj : j = i
    · subst hj
      by_cases hlt : j < k
      · simp [hlt, sparseGet]
      · by_cases hk : k = j
        · simp [hk, sparseGet]
        · simp [hlt, hk, sparseGet, ih]
    · by_cases hlt : i < k
      · simp [hlt, sparseGet, hj, Ne.symm hj]
      · by_cases hk : k = i
        · simp [hk, sparseGet, hj, Ne.symm hj]
        · simp [hlt, hk, sparseGet, ih, hj]

/-- Read after write. -/
theorem sparseGet_put [DecidableEq α] (d : α) (m : List (Nat × α)) (i j : Nat) (v : α) :
    sparseGet d (sparsePut d m i v) j = if j = i then v else sparseGet d m j := by
  unfold sparsePut
  split
  · next h => rw [sparseGet_erase, h]
  · exact sparseGet_insert d m i j v

theorem sparseRising_mono (m : List (Nat × α)) (lo lo' : Nat) (h : lo' ≤ lo) (hm : sparseRising lo m = true) :
    sparseRising lo' m = true := by
  cases m with
  | nil => rfl
  | cons e m =>
    obtain ⟨k, x⟩ := e
    simp only [sparseRising, Bool.and_eq_true, decide_eq_true_eq] at hm ⊢
    exact ⟨Nat.le_trans h hm.1, hm.2⟩

theorem sparseRising_erase (m : List (Nat × α)) (i lo : Nat) (hm : sparseRising lo m = true) :
    sparseRising lo (sparseErase m i) = true := by
  induction m generalizing lo with
  | nil => rfl
  | cons e m ih =>
    obtain ⟨k, x⟩ := e
    simp only [sparseRising, Bool.and_eq_true, decide_eq_true_eq] at hm
    unfold sparseErase
    split
    · exact sparseRising_mono _ _ _ (by omega) (ih (k + 1) hm.2)
    · simp only [sparseRising, Bool.and_eq_true, decide_eq_true_eq]
      exact ⟨hm.1, ih (k + 1) hm.2⟩

theorem sparseRising_insert (m : List (Nat × α)) (i lo : Nat) (v : α) (hi : lo ≤ i) (hm : sparseRising lo m = true) :
    sparseRising lo (sparseInsert m i v) = true := by
  induction m generalizing lo with
  | nil => simp [sparseInsert, sparseRising, hi]
  | cons e m ih =>
    obtain ⟨k, x⟩ := e
    simp only [sparseRising, Bool.and_eq_true, decide_eq_true_eq] at hm
    unfold sparseInsert
    split
    · simp only [sparseRising, Bool.and_eq_true, decide_eq_true_eq]
      exact ⟨hi, by omega, hm.2⟩
    · split
      · next h =>
        subst h
        simp only [sparseRising, Bool.and_eq_true, decide_eq_true_eq]
        exact ⟨hi, hm.2⟩
      · simp only [sparseRising, Bool.and_eq_true, decide_eq_true_eq]
        exact ⟨hm.1, ih (k + 1) (by omega) hm.2⟩

theorem mem_sparseErase (m : List (Nat × α)) (i : Nat) (e : Nat × α) (h : e ∈ sparseErase m i) : e ∈ m := by
  induction m with
  | nil => exact h
  | cons f m ih =>
    obtain ⟨k, x⟩ := f
    unfold sparseErase at h
    split at h
    · exact List.mem_cons_of_mem _ (ih h)
    · rcases List.mem_cons.mp h with h | h
      · exact h ▸ List.mem_cons_self
      · exact List.mem_cons_of_mem _ (ih h)

theorem mem_sparseInsert (m : List (Nat × α)) (i : Nat) (v : α) (e : Nat × α) (h : e ∈ sparseInsert m i v) :
    e = (i, v) ∨ e ∈ m := by
  induction m with
  | nil => exact Or.inl (List.mem_singleton.mp h)
  | cons f m ih =>
    obtain ⟨k, x⟩ := f
    unfold sparseInsert at h
    split at h
    · exact List.mem_cons.mp h
    · split at h
      · rcases List.mem_cons.mp h with h | h
        · exact Or.inl h
        · exact Or.inr (List.mem_cons_of_mem _ h)
      · rcases List.mem_cons.mp h with h | h
        · exact Or.inr (h ▸ List.mem_cons_self)
        · exact (ih h).imp id (List.mem_cons_of_mem _)

/-- A write adds no entry but its own. -/
theorem mem_sparsePut [DecidableEq α] (d : α) (m : List (Nat × α)) (i : Nat) (v : α) (e : Nat × α)
    (h : e ∈ sparsePut d m i v) : e = (i, v) ∧ v ≠ d ∨ e ∈ m := by
  unfold sparsePut at h
  split at h
  · exact Or.inr (mem_sparseErase m i e h)
  · next hv => exact (mem_sparseInsert m i v e h).imp (⟨·, hv⟩) id

/-- A write keeps the canonical form. -/
theorem sparseWf_put [DecidableEq α] (d : α) (m : List (Nat × α)) (i : Nat) (v : α) (hm : sparseWf d m = true) :
    sparseWf d (sparsePut d m i v) = true := by
  simp only [sparseWf, Bool.and_eq_true, List.all_eq_true, decide_eq_true_eq] at hm ⊢
  refine ⟨?_, fun e he => ?_⟩
  · unfold sparsePut
    split
    · exact sparseRising_erase m i 0 hm.1
    · exact sparseRising_insert m i 0 v (Nat.zero_le i) hm.1
  · rcases mem_sparsePut d m i v e he with ⟨rfl, hv⟩ | h
    · exact hv
    · exact hm.2 e h

end Sys2Proof.Machine
end

