-- ==== Sys2Proof/Laws/Bus.lean ====
section
/-! SUPPORT. The laws of the bus: where an access goes, read after write, what each shared operation answers, and what
follows when it answers a next state. -/

namespace Sys2Proof.Machine

/-! ### What a read depends on -/

theorem State.byteAt_congr (s t : State) (hv : t.vram = s.vram) (hm : t.hostMem = s.hostMem) (x : Word) :
    t.byteAt x = s.byteAt x := by
  simp only [State.byteAt, State.videoRead, hv, hm]

theorem State.mapped_congr (s t : State) (h : t.params = s.params) (x : Word) : t.mapped x = s.mapped x := by
  simp only [State.mapped, h]

theorem State.tileRowAt_congr (s t : State) (h : t.tiles = s.tiles) (n r : Nat) : t.tileRowAt n r = s.tileRowAt n r := by
  simp only [State.tileRowAt, h]

@[simp] theorem State.mapped_storeByte (s : State) (y : Word) (w : Byte) (x : Word) : (s.storeByte y w).mapped x = s.mapped x :=
  State.mapped_congr _ _ (by simp) x

@[simp] theorem State.mapped_setPc (s : State) (v : Word) (x : Word) : (s.setPc v).mapped x = s.mapped x :=
  State.mapped_congr _ _ (by simp) x

@[simp] theorem State.byteAt_setPc (s : State) (v : Word) (x : Word) : (s.setPc v).byteAt x = s.byteAt x :=
  State.byteAt_congr _ _ (by simp) (by simp) x

@[simp] theorem State.tileRowAt_setPc (s : State) (v : Word) (n k : Nat) :
    (s.setPc v).tileRowAt n k = s.tileRowAt n k :=
  State.tileRowAt_congr _ _ (by simp) n k

@[simp] theorem State.mapped_setSp (s : State) (v : Word) (x : Word) : (s.setSp v).mapped x = s.mapped x :=
  State.mapped_congr _ _ (by simp) x

@[simp] theorem State.byteAt_setSp (s : State) (v : Word) (x : Word) : (s.setSp v).byteAt x = s.byteAt x :=
  State.byteAt_congr _ _ (by simp) (by simp) x

@[simp] theorem State.tileRowAt_setSp (s : State) (v : Word) (n k : Nat) :
    (s.setSp v).tileRowAt n k = s.tileRowAt n k :=
  State.tileRowAt_congr _ _ (by simp) n k

@[simp] theorem State.mapped_setFlags (s : State) (f : Flags) (x : Word) : (s.setFlags f).mapped x = s.mapped x :=
  State.mapped_congr _ _ (by simp) x

@[simp] theorem State.byteAt_setFlags (s : State) (f : Flags) (x : Word) : (s.setFlags f).byteAt x = s.byteAt x :=
  State.byteAt_congr _ _ (by simp) (by simp) x

@[simp] theorem State.tileRowAt_setFlags (s : State) (f : Flags) (n k : Nat) :
    (s.setFlags f).tileRowAt n k = s.tileRowAt n k :=
  State.tileRowAt_congr _ _ (by simp) n k

@[simp] theorem State.mapped_advance (s : State) (n : Word) (x : Word) : (s.advance n).mapped x = s.mapped x :=
  State.mapped_congr _ _ (by simp) x

@[simp] theorem State.byteAt_advance (s : State) (n : Word) (x : Word) : (s.advance n).byteAt x = s.byteAt x :=
  State.byteAt_congr _ _ (by simp) (by simp) x

@[simp] theorem State.tileRowAt_advance (s : State) (w : Word) (n k : Nat) :
    (s.advance w).tileRowAt n k = s.tileRowAt n k :=
  State.tileRowAt_congr _ _ (by simp) n k

@[simp] theorem State.mapped_setReg (s : State) (r : Reg8) (w : Byte) (x : Word) : (s.setReg r w).mapped x = s.mapped x :=
  State.mapped_congr _ _ (by simp) x

@[simp] theorem State.byteAt_setReg (s : State) (r : Reg8) (w : Byte) (x : Word) : (s.setReg r w).byteAt x = s.byteAt x :=
  State.byteAt_congr _ _ (by simp) (by simp) x

@[simp] theorem State.tileRowAt_setReg (s : State) (r : Reg8) (w : Byte) (n k : Nat) :
    (s.setReg r w).tileRowAt n k = s.tileRowAt n k :=
  State.tileRowAt_congr _ _ (by simp) n k

@[simp] theorem State.mapped_setPair (s : State) (p : PairView) (v : Word) (x : Word) : (s.setPair p v).mapped x = s.mapped x :=
  State.mapped_congr _ _ (by simp) x

@[simp] theorem State.byteAt_setPair (s : State) (p : PairView) (v : Word) (x : Word) : (s.setPair p v).byteAt x = s.byteAt x :=
  State.byteAt_congr _ _ (by simp) (by simp) x

@[simp] theorem State.tileRowAt_setPair (s : State) (p : PairView) (v : Word) (n k : Nat) :
    (s.setPair p v).tileRowAt n k = s.tileRowAt n k :=
  State.tileRowAt_congr _ _ (by simp) n k

@[simp] theorem State.mapped_setSel (s : State) (p : PairSel) (v : Word) (x : Word) : (s.setSel p v).mapped x = s.mapped x :=
  State.mapped_congr _ _ (by simp) x

@[simp] theorem State.byteAt_setSel (s : State) (p : PairSel) (v : Word) (x : Word) : (s.setSel p v).byteAt x = s.byteAt x :=
  State.byteAt_congr _ _ (by simp) (by simp) x

@[simp] theorem State.tileRowAt_setSel (s : State) (p : PairSel) (v : Word) (n k : Nat) :
    (s.setSel p v).tileRowAt n k = s.tileRowAt n k :=
  State.tileRowAt_congr _ _ (by simp) n k

@[simp] theorem State.mapped_aluCommit (s : State) (o : AluOp) (w : Byte) (x : Word) : (s.aluCommit o w).mapped x = s.mapped x :=
  State.mapped_congr _ _ (by simp) x

@[simp] theorem State.byteAt_aluCommit (s : State) (o : AluOp) (w : Byte) (x : Word) : (s.aluCommit o w).byteAt x = s.byteAt x :=
  State.byteAt_congr _ _ (by simp) (by simp) x

@[simp] theorem State.tileRowAt_aluCommit (s : State) (o : AluOp) (w : Byte) (n k : Nat) :
    (s.aluCommit o w).tileRowAt n k = s.tileRowAt n k :=
  State.tileRowAt_congr _ _ (by simp) n k

@[simp] theorem State.storeByte_setSp (s : State) (v x : Word) (w : Byte) :
    (s.setSp v).storeByte x w = (s.storeByte x w).setSp v := by
  unfold State.storeByte
  split
  · unfold State.videoWrite
    split <;> rfl
  · rfl

@[simp] theorem State.setSp_setSp (s : State) (v w : Word) : (s.setSp v).setSp w = s.setSp w := rfl

@[simp] theorem State.hl_storeByte (s : State) (x : Word) (v : Byte) : (s.storeByte x v).hl = s.hl := by
  simp [State.hl, State.getPair]

/-! ### The window -/

theorem inVideo_eq_true (x : Word) : inVideo x = true ↔ 0x8000 ≤ x.toNat ∧ x.toNat ≤ 0x9FFF := by
  simp [inVideo]

theorem videoOffset_eq (x : Word) (h : inVideo x = true) : videoOffset x = x.toNat - 0x8000 := by
  have := (inVideo_eq_true x).mp h
  have hx := x.isLt
  have h8 : (0x8000 : Word).toNat = 0x8000 := rfl
  rw [videoOffset, BitVec.toNat_sub, h8]
  omega

theorem inVideo_eq_false (x : Word) : inVideo x = false ↔ x.toNat < 0x8000 ∨ 0x9FFF < x.toNat := by
  rw [← Bool.not_eq_true, inVideo_eq_true]
  omega

theorem hostOwns_eq_true (p : Params) (x : Word) :
    hostOwns p x = true ↔
      (x.toNat < 0x8000 ∨ 0x9FFF < x.toNat) ∧ ∃ r ∈ p.hostRegion, r.lo.toNat ≤ x.toNat ∧ x.toNat ≤ r.hi.toNat := by
  simp [hostOwns, inVideo_eq_false, rangeHolds]

/-! ### Video memory -/

@[simp] theorem State.recomputeRow_videoRead (s : State) (o q : Nat) : (s.recomputeRow o).videoRead q = s.videoRead q :=
  rfl

/-- A device write is read back, and every other byte is as before. -/
theorem State.videoRead_videoWrite (s : State) (o q : Nat) (v : Byte) :
    (s.videoWrite o v).videoRead q = if q = o then v else s.videoRead q := by
  have h : State.videoRead { s with vram := sparsePut fillByte s.vram o v } q = if q = o then v else s.videoRead q :=
    sparseGet_put fillByte s.vram o q v
  unfold State.videoWrite
  simp only
  split
  · rw [State.recomputeRow_videoRead, h]
  · exact h

/-! ### Read after write on the bus -/

/-- A stored byte is read back, and every other byte of memory is as before. -/
theorem State.byteAt_storeByte (s : State) (x y : Word) (v : Byte) :
    (s.storeByte x v).byteAt y = if y = x then v else s.byteAt y := by
  have inj : ∀ a b : Word, a.toNat = b.toNat → a = b := fun a b h => BitVec.eq_of_toNat_eq h
  unfold State.storeByte
  by_cases hx : inVideo x = true
  · simp only [hx, if_true, State.byteAt]
    have h1 := (inVideo_eq_true x).mp hx
    by_cases hy : inVideo y = true
    · simp only [hy, if_true, State.videoRead_videoWrite]
      have h2 := (inVideo_eq_true y).mp hy
      by_cases hxy : y = x
      · simp [hxy]
      · have : videoOffset y ≠ videoOffset x := by
          rw [videoOffset_eq y hy, videoOffset_eq x hx]
          intro h
          exact hxy (inj _ _ (by omega))
        simp [hxy, this]
    · have hxy : y ≠ x := fun h => hy (h ▸ hx)
      simp [hy, hxy]
  · simp only [hx, State.byteAt]
    by_cases hy : inVideo y = true
    · have hxy : y ≠ x := fun h => hx (h ▸ hy)
      simp [hy, hxy, State.videoRead]
    · simp only [hy]
      by_cases hxy : y = x
      · simp [hxy, sparseGet_put]
      · have : y.toNat ≠ x.toNat := fun h => hxy (inj _ _ h)
        simp [hxy, this, sparseGet_put]

/-! ### Reads and writes of the pseudocode -/

theorem memRead_of_mapped (s : State) (x : Word) (k : Access) (rest : Byte → Result) (h : s.mapped x = true) :
    memRead s x k rest = rest (s.byteAt x) := by
  simp [memRead, h]

theorem memRead_of_unmapped (s : State) (x : Word) (k : Access) (rest : Byte → Result) (h : s.mapped x = false) :
    memRead s x k rest = .fault (.busFault x k) := by
  simp [memRead, h, raiseBusFault]

theorem memWrite_of_mapped (s : State) (x : Word) (v : Byte) (rest : State → Result) (h : s.mapped x = true) :
    memWrite s x v rest = rest (s.storeByte x v) := by
  simp [memWrite, h]

theorem memWrite_of_unmapped (s : State) (x : Word) (v : Byte) (rest : State → Result) (h : s.mapped x = false) :
    memWrite s x v rest = .fault (.busFault x .write) := by
  simp [memWrite, h, raiseBusFault]

/-- All a read can do when it answers a next state. -/
theorem memRead_next {s t : State} {x : Word} {k : Access} {rest : Byte → Result} (h : memRead s x k rest = .next t) :
    s.mapped x = true ∧ rest (s.byteAt x) = .next t := by
  unfold memRead at h
  split at h
  · next hm => exact ⟨hm, h⟩
  · exact nomatch h

/-- All a write can do when it answers a next state. -/
theorem memWrite_next {s t : State} {x : Word} {v : Byte} {rest : State → Result} (h : memWrite s x v rest = .next t) :
    s.mapped x = true ∧ rest (s.storeByte x v) = .next t := by
  unfold memWrite at h
  split at h
  · next hm => exact ⟨hm, h⟩
  · exact nomatch h

theorem memRead16_next {s t : State} {x : Word} {k : Access} {rest : Word → Result} (h : memRead16 s x k rest = .next t) :
    s.mapped x = true ∧ s.mapped (x + 1) = true ∧ rest (s.byteAt (x + 1) ++ s.byteAt x) = .next t := by
  obtain ⟨h1, h⟩ := memRead_next h
  obtain ⟨h2, h⟩ := memRead_next h
  exact ⟨h1, h2, h⟩

theorem memRead16_of_mapped (s : State) (x : Word) (k : Access) (rest : Word → Result) (h1 : s.mapped x = true)
    (h2 : s.mapped (x + 1) = true) : memRead16 s x k rest = rest (s.byteAt (x + 1) ++ s.byteAt x) := by
  rw [memRead16, memRead_of_mapped _ _ _ _ h1, memRead_of_mapped _ _ _ _ h2]

/-! ### The stack -/

/-- The state after a push whose two bytes are mapped (R156). -/
def State.pushed (s : State) (v : Word) : State :=
  ((s.storeByte (s.sp - 1) (v.extractLsb' 8 8)).storeByte (s.sp - 2) (v.extractLsb' 0 8)).setSp (s.sp - 2)

theorem Word.sub_one_sub_one (x : Word) : x - 1 - 1 = x - 2 := by
  rw [BitVec.sub_sub]; rfl

theorem Word.add_one_add_one (x : Word) : x + 1 + 1 = x + 2 := by
  rw [BitVec.add_assoc]; rfl

theorem push16_of_mapped (s : State) (v : Word) (rest : State → Result) (h1 : s.mapped (s.sp - 1) = true)
    (h2 : s.mapped (s.sp - 2) = true) : push16 s v rest = rest (s.pushed v) := by
  rw [push16, memWrite_of_mapped _ _ _ _ (by simpa using h1)]
  rw [memWrite_of_mapped _ _ _ _ (by
    rw [← Word.sub_one_sub_one] at h2
    simpa using h2)]
  simp only [State.storeByte_setSp, State.setSp_sp, State.setSp_setSp, State.pushed, Word.sub_one_sub_one]

/-- All a push can do when it answers a next state. -/
theorem push16_next {s t : State} {v : Word} {rest : State → Result} (h : push16 s v rest = .next t) :
    s.mapped (s.sp - 1) = true ∧ s.mapped (s.sp - 2) = true ∧ rest (s.pushed v) = .next t := by
  have h0 := h
  rw [push16] at h
  obtain ⟨h1, h⟩ := memWrite_next h
  obtain ⟨h2, -⟩ := memWrite_next h
  simp only [State.mapped_setSp, State.mapped_storeByte, State.storeByte_sp, State.setSp_sp, Word.sub_one_sub_one]
    at h1 h2
  rw [push16_of_mapped s v rest h1 h2] at h0
  exact ⟨h1, h2, h0⟩

theorem pop16_of_mapped (s : State) (rest : Word → State → Result) (h1 : s.mapped s.sp = true)
    (h2 : s.mapped (s.sp + 1) = true) :
    pop16 s rest = rest (s.byteAt (s.sp + 1) ++ s.byteAt s.sp) (s.setSp (s.sp + 2)) := by
  rw [pop16, memRead_of_mapped _ _ _ _ h1, memRead_of_mapped _ _ _ _ (by simpa using h2)]
  simp only [State.byteAt_setSp, State.setSp_sp, State.setSp_setSp, Word.add_one_add_one]

/-- All a pop can do when it answers a next state. -/
theorem pop16_next {s t : State} {rest : Word → State → Result} (h : pop16 s rest = .next t) :
    s.mapped s.sp = true ∧ s.mapped (s.sp + 1) = true ∧
      rest (s.byteAt (s.sp + 1) ++ s.byteAt s.sp) (s.setSp (s.sp + 2)) = .next t := by
  have h0 := h
  rw [pop16] at h
  obtain ⟨h1, h⟩ := memRead_next h
  obtain ⟨h2, -⟩ := memRead_next h
  simp only [State.mapped_setSp, State.setSp_sp] at h2
  rw [pop16_of_mapped s rest h1 h2] at h0
  exact ⟨h1, h2, h0⟩

@[simp] theorem State.mapped_pushed (s : State) (v x : Word) : (s.pushed v).mapped x = s.mapped x :=
  State.mapped_congr _ _ (by simp [State.pushed]) x

@[simp] theorem State.pushed_sp (s : State) (v : Word) : (s.pushed v).sp = s.sp - 2 := rfl

theorem State.byteAt_pushed (s : State) (v x : Word) :
    (s.pushed v).byteAt x =
      if x = s.sp - 2 then v.extractLsb' 0 8 else if x = s.sp - 1 then v.extractLsb' 8 8 else s.byteAt x := by
  simp only [State.pushed, State.byteAt_setSp, State.byteAt_storeByte]

theorem Word.sub_two_add_one (x : Word) : x - 2 + 1 = x - 1 := by
  rw [← Word.sub_one_sub_one]; exact BitVec.sub_add_cancel _ _

theorem Word.sub_two_add_two (x : Word) : x - 2 + 2 = x := BitVec.sub_add_cancel _ _

theorem Word.sub_one_ne_sub_two (x : Word) : x - 1 ≠ x - 2 := by
  intro h
  have := congrArg BitVec.toNat h
  simp [BitVec.toNat_sub] at this
  omega

end Sys2Proof.Machine
end

