-- ==== Sys2Proof/Laws/Decoding.lean ====
section
/-! SUPPORT. What the decoder answers on a list of bytes: the byte 0xCB sends it to the secondary space, any other byte
to the main space (spec/30_encoding.md R97, R101). -/

namespace Sys2Proof

theorem decode_main {op : Byte} (h : op ≠ 0xCB) (rest : List Byte) : decode (op :: rest) = .ok (decodeMain op, rest) := by
  simp only [decode, if_neg h]

theorem decode_cb (op2 : Byte) (rest : List Byte) : decode (0xCB :: op2 :: rest) = .ok (decodeCb op2, rest) := rfl

end Sys2Proof
end

