-- ==== Sys2Proof/Laws/Exec.lean ====
section
/-! SUPPORT. exec by form: the meaning of a row is the shared operation of its family on its operands, so that a proof
over all 512 rows splits on the families alone. -/

namespace Sys2Proof.Machine

/-- The shared operation of each form. -/
def runForm (f : Form) (s : State) : Result :=
  match f with
  | .nop => nop s
  | .halt => halt s
  | .rotA k => rotateA k s
  | .aluReg o r => aluReg o r s
  | .aluMem o => aluMem o s
  | .aluImm o => aluImm o s
  | .addHl p => addHl p s
  | .incReg r => incReg r s
  | .incMem => incMem s
  | .decReg r => decReg r s
  | .decMem => decMem s
  | .inc16 p => inc16 p s
  | .dec16 p => dec16 p s
  | .push p => push p s
  | .pop p => pop p s
  | .jp => jump s
  | .jpCc cc => jumpIf cc s
  | .call => call s
  | .callCc cc => callIf cc s
  | .ret => ret s
  | .retCc cc => retIf cc s
  | .ldReg dst r => ldReg dst r s
  | .ldImm dst => ldImm dst s
  | .ldMem dst => ldMem dst s
  | .stReg r => stReg r s
  | .stImm => stImm s
  | .shiftReg k r => shiftReg k r s
  | .shiftMem k => shiftMem k s
  | .bitReg b r => bitReg b r s
  | .bitMem b => bitMem b s
  | .resReg b r => resReg b r s
  | .resMem b => resMem b s
  | .setReg b r => setReg b r s
  | .setMem b => setMem b s
  | .prefixByte => prefixByte s
  | .unrecognized op => undefinedOpcode op s

/-- Every arm of exec is the operation of its row's form. -/
theorem exec_eq_runForm (i : Instr) (s : State) : exec i s = runForm i.form s := by
  cases i <;> rfl

/-- The row of a form has that form, except for an unrecognized byte that is none of the 55. -/
theorem form_instr (f : Form) (h : ∀ op, f ≠ .unrecognized op) : f.instr.form = f := by
  cases f with
  | unrecognized op => exact absurd rfl (h op)
  | aluReg o r => cases o <;> cases r <;> rfl
  | ldReg dst r => cases dst <;> cases r <;> rfl
  | shiftReg k r => cases k <;> cases r <;> rfl
  | bitReg b r => cases b <;> cases r <;> rfl
  | resReg b r => cases b <;> cases r <;> rfl
  | setReg b r => cases b <;> cases r <;> rfl
  | rotA k => cases k <;> rfl
  | aluMem o => cases o <;> rfl
  | aluImm o => cases o <;> rfl
  | addHl p => cases p <;> rfl
  | incReg r => cases r <;> rfl
  | decReg r => cases r <;> rfl
  | inc16 p => cases p <;> rfl
  | dec16 p => cases p <;> rfl
  | push p => cases p <;> rfl
  | pop p => cases p <;> rfl
  | jpCc cc => cases cc <;> rfl
  | callCc cc => cases cc <;> rfl
  | retCc cc => cases cc <;> rfl
  | ldImm dst => cases dst <;> rfl
  | ldMem dst => cases dst <;> rfl
  | stReg r => cases r <;> rfl
  | shiftMem k => cases k <;> rfl
  | bitMem b => cases b <;> rfl
  | resMem b => cases b <;> rfl
  | setMem b => cases b <;> rfl
  | nop | halt | incMem | decMem | jp | call | ret | stImm | prefixByte => rfl

/-- exec of the row of a form is the operation of that form. -/
theorem exec_instr (f : Form) (s : State) (h : ∀ op, f ≠ .unrecognized op) : exec f.instr s = runForm f s := by
  rw [exec_eq_runForm, form_instr f h]

/-- The row of the byte 0xCB runs the row its second byte decodes to. -/
theorem runCb_eq_exec (op2 : Byte) (s : State) : runCb op2 s = exec (decodeCb op2) s := by
  have hf : ∀ op, cbForm op2 ≠ .unrecognized op := fun op h => by
    simp only [cbForm] at h
    split at h <;> exact nomatch h
  rw [decodeCb, exec_instr _ _ hf]
  simp only [runCb, cbForm]
  generalize op2.toNat / 64 = x
  cases regOf (op2.toNat % 8) <;> match x with | 0 | 1 | 2 | _ + 3 => rfl

/-- All a step can do when it answers a next state: an inert step of a halted machine, an inert step at an unrecognized
byte, or the meaning of the instruction fetched. -/
theorem step_next {s t : State} (h : step s = .next t) :
    s.faulted = false ∧ (t = s ∨ s.halted = false ∧ ∃ i, exec i s = .next t) := by
  unfold step whenRunning at h
  split at h
  · exact nomatch h
  · next hf =>
    refine ⟨by simpa using hf, ?_⟩
    split at h
    · exact Or.inl (by injection h with h; exact h.symm)
    · next hh =>
      obtain ⟨-, h⟩ := memRead_next h
      split at h
      · unfold undefinedOpcode at h
        split at h
        · exact Or.inl (by injection h with h; exact h.symm)
        · exact nomatch h
      · refine Or.inr ⟨by simpa using hh, ?_⟩
        split at h
        · obtain ⟨-, h⟩ := memRead_next h
          exact ⟨_, h⟩
        · exact ⟨_, h⟩

end Sys2Proof.Machine
end

