-- ==== Sys2Proof/Laws/Outcome.lean ====
section
/-! SUPPORT. Everything an instruction can do, said once: the accesses of a form in their order, the state it leaves when
all of them are mapped, and that it answers that state, or a BusFault at the first access that is not mapped. -/

namespace Sys2Proof.Machine

/-- The accesses of a form, in the order of its rule's pseudocode. -/
def formAccesses (f : Form) (s : State) : List (Word × Access) :=
  match f with
  | .aluMem _ | .ldMem _ | .bitMem _ => [(s.hl, .read)]
  | .aluImm _ | .ldImm _ => [(s.pc + 1, .fetch)]
  | .incMem | .decMem | .shiftMem _ | .resMem _ | .setMem _ => [(s.hl, .read), (s.hl, .write)]
  | .stReg _ => [(s.hl, .write)]
  | .stImm => [(s.pc + 1, .fetch), (s.hl, .write)]
  | .push _ => [(s.sp - 1, .write), (s.sp - 2, .write)]
  | .pop _ | .ret => [(s.sp, .read), (s.sp + 1, .read)]
  | .retCc cc => if condHolds cc s.flags then [(s.sp, .read), (s.sp + 1, .read)] else []
  | .jp => [(s.pc + 1, .fetch), (s.pc + 2, .fetch)]
  | .jpCc cc => if condHolds cc s.flags then [(s.pc + 1, .fetch), (s.pc + 2, .fetch)] else []
  | .call => [(s.sp - 1, .write), (s.sp - 2, .write), (s.pc + 1, .fetch), (s.pc + 2, .fetch)]
  | .callCc cc =>
    if condHolds cc s.flags then [(s.sp - 1, .write), (s.sp - 2, .write), (s.pc + 1, .fetch), (s.pc + 2, .fetch)]
    else []
  | _ => []

/-- The word the operand bytes of a three-byte instruction hold. -/
def State.operand16 (s : State) (pc : Word) : Word := s.byteAt (pc + 2) ++ s.byteAt (pc + 1)

/-- The word on top of the stack. -/
def State.stackTop (s : State) : Word := s.byteAt (s.sp + 1) ++ s.byteAt s.sp

/-- The state after a taken CALL. -/
def State.called (s : State) : State := (s.pushed (s.pc + 3)).setPc ((s.pushed (s.pc + 3)).operand16 s.pc)

/-- The state after a taken RET. -/
def State.returned (s : State) : State := (s.setSp (s.sp + 2)).setPc s.stackTop

/-- The state a form leaves when all its accesses are mapped. -/
def formPost (f : Form) (s : State) : State :=
  match f with
  | .nop => s.advance 1
  | .halt => { s with halted := true }.advance 1
  | .rotA k => ((s.setReg .a (rotA8 k s.a s.flags).1).setFlags (rotA8 k s.a s.flags).2).advance 1
  | .aluReg o r => (s.aluCommit o (s.getReg r)).advance 1
  | .aluMem o => (s.aluCommit o (s.byteAt s.hl)).advance 1
  | .aluImm o => (s.aluCommit o (s.byteAt (s.pc + 1))).advance 2
  | .addHl p =>
    ((s.setPair .hl (add16 s.hl (s.getSel p)).1).setFlags
      { z := s.flags.z, n := false, h := (add16 s.hl (s.getSel p)).2.1, c := (add16 s.hl (s.getSel p)).2.2 }).advance 1
  | .incReg r => ((s.setReg r (inc8 (s.getReg r) s.flags).1).setFlags (inc8 (s.getReg r) s.flags).2).advance 1
  | .decReg r => ((s.setReg r (dec8 (s.getReg r) s.flags).1).setFlags (dec8 (s.getReg r) s.flags).2).advance 1
  | .incMem =>
    ((s.storeByte s.hl (inc8 (s.byteAt s.hl) s.flags).1).setFlags (inc8 (s.byteAt s.hl) s.flags).2).advance 1
  | .decMem =>
    ((s.storeByte s.hl (dec8 (s.byteAt s.hl) s.flags).1).setFlags (dec8 (s.byteAt s.hl) s.flags).2).advance 1
  | .inc16 p => (s.setSel p (s.getSel p + 1)).advance 1
  | .dec16 p => (s.setSel p (s.getSel p - 1)).advance 1
  | .push p => (s.pushed (s.getPair p)).advance 1
  | .pop p => ((s.setSp (s.sp + 2)).setPair p s.stackTop).advance 1
  | .jp => s.setPc (s.operand16 s.pc)
  | .jpCc cc => if condHolds cc s.flags then s.setPc (s.operand16 s.pc) else s.advance 3
  | .call => s.called
  | .callCc cc => if condHolds cc s.flags then s.called else s.advance 3
  | .ret => s.returned
  | .retCc cc => if condHolds cc s.flags then s.returned else s.advance 1
  | .ldReg dst r => (s.setReg dst (s.getReg r)).advance 1
  | .ldImm dst => (s.setReg dst (s.byteAt (s.pc + 1))).advance 2
  | .ldMem dst => (s.setReg dst (s.byteAt s.hl)).advance 1
  | .stReg r => (s.storeByte s.hl (s.getReg r)).advance 1
  | .stImm => (s.storeByte s.hl (s.byteAt (s.pc + 1))).advance 2
  | .shiftReg k r =>
    ((s.setReg r (shiftFlags k (s.getReg r) s.flags).1).setFlags (shiftFlags k (s.getReg r) s.flags).2).advance 2
  | .shiftMem k =>
    ((s.storeByte s.hl (shiftFlags k (s.byteAt s.hl) s.flags).1).setFlags
      (shiftFlags k (s.byteAt s.hl) s.flags).2).advance 2
  | .bitReg b r => (s.setFlags (bitFlags b (s.getReg r) s.flags)).advance 2
  | .bitMem b => (s.setFlags (bitFlags b (s.byteAt s.hl) s.flags)).advance 2
  | .resReg b r => (s.setReg r (resBit b (s.getReg r))).advance 2
  | .resMem b => (s.storeByte s.hl (resBit b (s.byteAt s.hl))).advance 2
  | .setReg b r => (s.setReg r (setBit b (s.getReg r))).advance 2
  | .setMem b => (s.storeByte s.hl (setBit b (s.byteAt s.hl))).advance 2
  | .prefixByte | .unrecognized _ => s

/-- The outcome of a list of accesses followed by a next state: the first unmapped one is a BusFault. -/
def accessOutcome (s : State) (t : State) : List (Word × Access) → Result
  | [] => .next t
  | (x, k) :: rest => if s.mapped x then accessOutcome s t rest else .fault (.busFault x k)

/-- The form is an instruction's, not the byte 0xCB's nor an unrecognized byte's. -/
def formPlain : Form → Bool
  | .prefixByte | .unrecognized _ => false
  | _ => true

theorem accessOutcome_next {s t u : State} {as : List (Word × Access)} (h : accessOutcome s t as = .next u) :
    u = t ∧ ∀ e ∈ as, s.mapped e.1 = true := by
  induction as with
  | nil => exact ⟨by injection h with h; exact h.symm, fun _ he => absurd he List.not_mem_nil⟩
  | cons e as ih =>
    unfold accessOutcome at h
    split at h
    · next hm =>
      obtain ⟨h1, h2⟩ := ih h
      exact ⟨h1, fun e' he => by
        rcases List.mem_cons.mp he with rfl | he
        · exact hm
        · exact h2 e' he⟩
    · exact nomatch h

theorem accessOutcome_of_mapped {s t : State} {as : List (Word × Access)} (h : ∀ e ∈ as, s.mapped e.1 = true) :
    accessOutcome s t as = .next t := by
  induction as with
  | nil => rfl
  | cons e as ih =>
    simp [accessOutcome, h e List.mem_cons_self, ih fun e' he => h e' (List.mem_cons_of_mem _ he)]

theorem accessOutcome_fault {s t : State} {as : List (Word × Access)} {w : Fault}
    (h : accessOutcome s t as = .fault w) : ∃ e ∈ as, s.mapped e.1 = false ∧ w = .busFault e.1 e.2 := by
  induction as with
  | nil => exact nomatch h
  | cons e as ih =>
    unfold accessOutcome at h
    split at h
    · obtain ⟨e', he, h'⟩ := ih h
      exact ⟨e', List.mem_cons_of_mem _ he, h'⟩
    · next hm =>
      injection h with h
      exact ⟨e, List.mem_cons_self, by simpa using hm, h.symm⟩

theorem accessOutcome_not_refused (s t : State) (as : List (Word × Access)) (why : Refusal) :
    accessOutcome s t as ≠ .refused why := by
  induction as with
  | nil => exact fun h => nomatch h
  | cons e as ih =>
    unfold accessOutcome
    split
    · exact ih
    · exact fun h => nomatch h

theorem pop16_outcome (s t : State) (rest : Word → State → Result)
    (h : rest s.stackTop (s.setSp (s.sp + 2)) = .next t) :
    pop16 s rest = accessOutcome s t [(s.sp, .read), (s.sp + 1, .read)] := by
  by_cases h1 : s.mapped s.sp = true
  · by_cases h2 : s.mapped (s.sp + 1) = true
    · rw [pop16_of_mapped s rest h1 h2]
      simp only [accessOutcome, h1, h2, if_true]
      exact h
    · simp only [accessOutcome, h1, h2, if_true]
      rw [pop16, memRead_of_mapped _ _ _ _ h1, memRead_of_unmapped _ _ _ _ (by simpa using h2)]
      rfl
  · simp only [accessOutcome, h1]
    rw [pop16, memRead_of_unmapped _ _ _ _ (by simpa using h1)]
    rfl

theorem push16_outcome (s t : State) (v : Word) (rest : State → Result) (as : List (Word × Access))
    (h : rest (s.pushed v) = accessOutcome s t as) :
    push16 s v rest = accessOutcome s t ((s.sp - 1, .write) :: (s.sp - 2, .write) :: as) := by
  by_cases h1 : s.mapped (s.sp - 1) = true
  · by_cases h2 : s.mapped (s.sp - 2) = true
    · rw [push16_of_mapped s v rest h1 h2, h]
      simp only [accessOutcome, h1, h2, if_true]
    · simp only [accessOutcome, h1, h2, if_true]
      rw [← Word.sub_one_sub_one] at h2
      rw [push16, memWrite_of_mapped _ _ _ _ (by simpa using h1), memWrite_of_unmapped _ _ _ _ (by simpa using h2)]
      simp
      exact Word.sub_one_sub_one s.sp
  · simp only [accessOutcome, h1]
    rw [push16, memWrite_of_unmapped _ _ _ _ (by simpa using h1)]
    rfl

theorem imm16_outcome (s s1 t : State) (hm : ∀ x, s1.mapped x = s.mapped x) (hpc : s1.pc = s.pc)
    (ht : s1.setPc (s1.operand16 s.pc) = t) :
    (withImm16 s1 fun target => .next (s1.setPc target)) =
      accessOutcome s t [(s.pc + 1, .fetch), (s.pc + 2, .fetch)] := by
  have e : s.pc + 1 + 1 = s.pc + 2 := Word.add_one_add_one s.pc
  unfold withImm16 memRead16 memRead raiseBusFault
  simp only [hm, hpc, e, accessOutcome, ← ht, State.operand16]

theorem call_outcome (s : State) :
    call s = accessOutcome s s.called [(s.sp - 1, .write), (s.sp - 2, .write), (s.pc + 1, .fetch), (s.pc + 2, .fetch)] :=
  push16_outcome s s.called (s.pc + 3) _ _ (imm16_outcome s _ _ (fun x => State.mapped_pushed s _ x) (by
    simp [State.pushed]) rfl)

/-- Everything an instruction can do. -/
theorem runForm_outcome (f : Form) (s : State) (hf : formPlain f = true) :
    runForm f s = accessOutcome s (formPost f s) (formAccesses f s) := by
  cases f with
  | nop | halt | rotA | aluReg | addHl | incReg | decReg | inc16 | dec16 | ldReg | shiftReg | bitReg | resReg
  | setReg => rfl
  | aluMem | aluImm | ldMem | ldImm | bitMem | stReg | stImm => rfl
  | incMem | decMem | shiftMem | resMem | setMem => rfl
  | push p => exact push16_outcome s _ _ _ [] rfl
  | pop p => exact pop16_outcome s (formPost (.pop p) s) (fun v s1 => .next ((s1.setPair p v).advance 1)) rfl
  | ret => exact pop16_outcome s s.returned (fun target s1 => .next (s1.setPc target)) rfl
  | retCc cc =>
    simp only [runForm, retIf, formAccesses, formPost]
    split
    · exact pop16_outcome s s.returned (fun target s1 => .next (s1.setPc target)) rfl
    · rfl
  | jp => exact imm16_outcome s s _ (fun _ => rfl) rfl rfl
  | jpCc cc =>
    simp only [runForm, jumpIf, formAccesses, formPost]
    split
    · exact imm16_outcome s s _ (fun _ => rfl) rfl rfl
    · rfl
  | call => exact call_outcome s
  | callCc cc =>
    simp only [runForm, callIf, formAccesses, formPost]
    split
    · exact call_outcome s
    · rfl
  | prefixByte | unrecognized => exact nomatch hf

/-- When an instruction answers a next state, it is the state its form leaves, and all its accesses are mapped. -/
theorem runForm_next {f : Form} {s t : State} (hf : formPlain f = true) (h : runForm f s = .next t) :
    t = formPost f s ∧ ∀ e ∈ formAccesses f s, s.mapped e.1 = true := by
  rw [runForm_outcome f s hf] at h
  exact accessOutcome_next h

theorem runForm_of_mapped {f : Form} {s : State} (hf : formPlain f = true)
    (h : ∀ e ∈ formAccesses f s, s.mapped e.1 = true) : runForm f s = .next (formPost f s) := by
  rw [runForm_outcome f s hf]
  exact accessOutcome_of_mapped h

/-- The secondary space holds instructions alone. -/
theorem formPlain_cbForm (op2 : Byte) : formPlain (cbForm op2) = true := by
  unfold cbForm
  simp only
  split <;> rfl

theorem runForm_prefixByte (s : State) :
    runForm .prefixByte s = memRead s (s.pc + 1) .fetch fun op2 => runForm (cbForm op2) s := by
  have h : ∀ op2, runCb op2 s = runForm (cbForm op2) s := fun op2 => by
    rw [runCb_eq_exec, decodeCb, exec_instr]
    intro op hop
    have := formPlain_cbForm op2
    rw [hop] at this
    exact nomatch this
  exact congrArg (memRead s (s.pc + 1) .fetch) (funext h)

/-- The form of a secondary-space row is the one its byte selects. -/
theorem form_decodeCb (op2 : Byte) : (decodeCb op2).form = cbForm op2 := by
  rw [decodeCb, form_instr]
  intro op h
  have := formPlain_cbForm op2
  rw [h] at this
  exact nomatch this

/-- A row is the row of its form. -/
theorem instr_form (i : Instr) : i.form.instr = i := by
  cases i <;> rfl

theorem form_eq_halt (i : Instr) : i.form = .halt ↔ i = .halt :=
  ⟨fun h => by rw [← instr_form i, h]; rfl, fun h => by rw [h]; rfl⟩

theorem form_eq_prefixByte (i : Instr) : i.form = .prefixByte ↔ i = .prefix_CB :=
  ⟨fun h => by rw [← instr_form i, h]; rfl, fun h => by rw [h]; rfl⟩

theorem cbForm_ne_halt (op2 : Byte) : cbForm op2 ≠ .halt := by
  unfold cbForm
  simp only
  split <;> exact fun h => nomatch h

/-- The row of the byte 0xCB reads the byte after it and runs the row of that byte. -/
theorem exec_prefixByte (s : State) :
    exec .prefix_CB s = memRead s (s.pc + 1) .fetch fun op2 => exec (decodeCb op2) s := by
  rw [exec_eq_runForm]
  refine (runForm_prefixByte s).trans (congrArg (memRead s (s.pc + 1) .fetch) (funext fun op2 => ?_))
  rw [exec_eq_runForm, form_decodeCb]

/-- All exec can do when it answers a next state: the state a form leaves, with every access mapped, where the form is
the row's own or, for the row of the byte 0xCB, one of the secondary space; or, for an unrecognized byte, the same
state. -/
theorem exec_next {i : Instr} {s t : State} (h : exec i s = .next t) :
    (∃ f, formPlain f = true ∧ t = formPost f s ∧ (∀ e ∈ formAccesses f s, s.mapped e.1 = true) ∧
      (i.form = f ∨ i = .prefix_CB ∧ ∃ op2, f = cbForm op2)) ∨
    i.isUnrecognized = true ∧ t = s := by
  by_cases hp : formPlain i.form = true
  · rw [exec_eq_runForm] at h
    obtain ⟨h1, h2⟩ := runForm_next hp h
    exact Or.inl ⟨_, hp, h1, h2, Or.inl rfl⟩
  by_cases hi : i = .prefix_CB
  · subst hi
    rw [exec_prefixByte] at h
    obtain ⟨-, h⟩ := memRead_next h
    rw [exec_eq_runForm, form_decodeCb] at h
    obtain ⟨h1, h2⟩ := runForm_next (formPlain_cbForm _) h
    exact Or.inl ⟨_, formPlain_cbForm _, h1, h2, Or.inr ⟨rfl, _, rfl⟩⟩
  have hne := (form_eq_prefixByte i).not.mpr hi
  rw [exec_eq_runForm] at h
  unfold Instr.isUnrecognized
  generalize i.form = f at h hp hne
  cases f with
  | unrecognized op =>
    refine Or.inr ⟨rfl, ?_⟩
    simp only [runForm, undefinedOpcode] at h
    split at h
    · injection h with h; exact h.symm
    · exact nomatch h
  | prefixByte => exact absurd rfl hne
  | _ => exact absurd rfl hp

/-- The same for a row that is not the byte 0xCB. -/
theorem exec_next_plain {i : Instr} {s t : State} (hi : i ≠ .prefix_CB) (h : exec i s = .next t) :
    (formPlain i.form = true ∧ t = formPost i.form s ∧ ∀ e ∈ formAccesses i.form s, s.mapped e.1 = true) ∨
    i.isUnrecognized = true ∧ t = s := by
  rcases exec_next h with ⟨f, hp, rfl, hm, rfl | ⟨h', -⟩⟩ | h
  · exact Or.inl ⟨hp, rfl, hm⟩
  · exact absurd h' hi
  · exact Or.inr h

/-- exec of the row of a form, in full. -/
theorem exec_instr_outcome (f : Form) (s : State) (hf : formPlain f = true) :
    exec f.instr s = accessOutcome s (formPost f s) (formAccesses f s) := by
  rw [exec_instr f s (by rintro op rfl; exact nomatch hf), runForm_outcome f s hf]

/-- No form changes a parameter or the faulted latch, and HALT alone sets the halted flag. -/
theorem formPost_fixed (f : Form) (s : State) :
    (formPost f s).params = s.params ∧ (formPost f s).faulted = s.faulted ∧
      (formPost f s).halted = (s.halted || decide (f = .halt)) := by
  cases f <;> simp only [formPost] <;> (try split) <;>
    simp [State.pushed, State.called, State.returned]

/-- The form of an unrecognized byte's row; the byte is not 0xCB. -/
theorem form_of_isUnrecognized (op : Byte) (h : (decodeMain op).isUnrecognized = true) :
    (decodeMain op).form = .unrecognized op ∧ op ≠ 0xCB := by
  revert op
  decide

/-- What a step does when the byte at PC can be fetched. -/
theorem step_of_mapped (s : State) (hf : s.faulted = false) (hh : s.halted = false) (hm : s.mapped s.pc = true) :
    step s =
      if s.refusesByte (s.byteAt s.pc) then undefinedOpcode (s.byteAt s.pc) s
      else if s.byteAt s.pc = 0xCB then memRead s (s.pc + 1) .fetch fun op2 => exec (decodeCb op2) s
      else exec (decodeMain (s.byteAt s.pc)) s := by
  simp only [step, whenRunning, hf, hh, fetchInstr]
  rw [memRead_of_mapped _ _ _ _ hm]
  simp only [Bool.false_eq_true, if_false]

/-- A quiescent machine makes no progress by itself: no step is taken when it is faulted, and every other step is inert
(R268). -/
theorem step_of_quiescent {s : State} (h : s.quiescent = true) :
    step s = if s.faulted then .fault .machineFaulted else .next s := by
  by_cases hf : s.faulted = true
  · simp [step, whenRunning, hf]
  by_cases hh : s.halted = true
  · simp [step, whenRunning, hf, hh]
  simp only [State.quiescent, State.livelocked, hf, hh, Bool.false_or, Bool.not_false, Bool.true_and, Bool.and_eq_true,
    Bool.or_eq_true, decide_eq_true_eq] at h
  obtain ⟨⟨hm, hp⟩, hb⟩ := h
  have hu : ∀ op, undefinedOpcode op s = .next s := fun op => by simp [undefinedOpcode, hp]
  rw [step_of_mapped s (by simpa using hf) (by simpa using hh) hm]
  simp only [hf, Bool.false_eq_true, if_false]
  split
  · exact hu _
  · next hr =>
    obtain ⟨hform, hne⟩ := form_of_isUnrecognized (s.byteAt s.pc) (by simpa [hr] using hb)
    rw [if_neg hne, exec_eq_runForm, hform]
    exact hu _

/-- One more step of a run. -/
theorem run_succ_of_next (m : Host.Core) (n : Nat) (s t : m.State) (h : m.step s = .next t) :
    m.run (n + 1) s = m.run n t := by
  simp only [Host.Core.run, h]

/-- A state that a step does not change is not changed by a run (R268). -/
theorem run_of_step_self {s : State} (h : step s = .next s) (n : Nat) : Sys2Proof.core.run n s = .next s := by
  induction n with
  | zero => rfl
  | succ n ih => exact (run_succ_of_next Sys2Proof.core n s s h).trans ih

end Sys2Proof.Machine
end

