-- ==== Sys2Proof/Laws/Tiles.lean ====
section
/-! SUPPORT. The laws of the video device: which row a write recomputes, and that every memory operation keeps the
canonical forms and the consistency of the tile set (spec/50_video_device.md R235 to R239). -/

namespace Sys2Proof.Machine

/-- A device write sets one row of the tile set, from the bytes stored after it, and no other (R236). -/
theorem State.tileRowAt_videoWrite (s : State) (o : Nat) (v : Byte) (t r : Nat) (hr : r < 8) :
    (s.videoWrite o v).tileRowAt t r =
      if o ≤ 0x17FF ∧ t = o / 16 ∧ r = o % 16 / 2 then
        tileRow ((s.videoWrite o v).videoRead (16 * t + 2 * r)) ((s.videoWrite o v).videoRead (16 * t + 2 * r + 1))
      else s.tileRowAt t r := by
  by_cases ho : o ≤ 0x17FF
  · have hread : ∀ q, (s.videoWrite o v).videoRead q =
        State.videoRead { s with vram := sparsePut fillByte s.vram o v } q := fun q => by
      simp [State.videoWrite, ho]
    simp only [hread]
    have hrow : (s.videoWrite o v).tileRowAt t r =
        State.tileRowAt (State.recomputeRow { s with vram := sparsePut fillByte s.vram o v } o) t r := by
      simp [State.videoWrite, ho]
    rw [hrow]
    have hlt : o % 16 / 2 < 8 := by omega
    simp only [State.recomputeRow, State.tileRowAt, sparseGet_put]
    by_cases hk : tileKey t r = tileKey (o / 16) (o % 16 / 2)
    · have hk' : 8 * t + r = 8 * (o / 16) + o % 16 / 2 := hk
      have ht : t = o / 16 ∧ r = o % 16 / 2 := by omega
      have he : o - o % 2 = 16 * t + 2 * r := by omega
      rw [if_pos hk, if_pos ⟨ho, ht⟩, he]
    · have ht : ¬ (o ≤ 0x17FF ∧ t = o / 16 ∧ r = o % 16 / 2) := fun h => hk (by rw [h.2.1, h.2.2])
      rw [if_neg hk, if_neg ht]
  · have : ¬ (o ≤ 0x17FF ∧ t = o / 16 ∧ r = o % 16 / 2) := fun h => ho h.1
    rw [if_neg this]
    simp [State.videoWrite, ho, State.tileRowAt]

/-- Every pixel of a row is 2 * high + low (R237). -/
theorem tileRow_pixel (low high : Byte) (c : Fin 8) :
    ((tileRow low high).pixel c).toNat =
      2 * (high.getLsbD (7 - c.val)).toNat + (low.getLsbD (7 - c.val)).toNat := by
  have hl : ∀ p q : Bool, (level p q).toNat = 2 * q.toNat + p.toNat := by decide
  fin_cases c <;> exact hl _ _

/-- A device write keeps the tile set consistent (R239). -/
theorem State.tilesConsistent_videoWrite (s : State) (o : Nat) (v : Byte) (h : s.tilesConsistent) :
    (s.videoWrite o v).tilesConsistent := by
  intro t ht r hr
  rw [State.tileRowAt_videoWrite s o v t r hr]
  split
  · rfl
  · next hne =>
    rw [h t ht r hr, State.videoRead_videoWrite, State.videoRead_videoWrite, if_neg (by omega), if_neg (by omega)]

theorem State.tilesConsistent_congr (s t : State) (hv : t.vram = s.vram) (ht : t.tiles = s.tiles)
    (h : s.tilesConsistent) : t.tilesConsistent := by
  intro n hn r hr
  have := h n hn r hr
  simpa only [State.tileRowAt, State.videoRead, hv, ht] using this

theorem State.memoryWf_congr (s t : State) (hv : t.vram = s.vram) (ht : t.tiles = s.tiles)
    (hm : t.hostMem = s.hostMem) (hp : t.params = s.params) (h : s.memoryWf) : t.memoryWf := by
  simpa only [State.memoryWf, hv, ht, hm, hp] using h

/-- The invariant speaks of the three memories and the parameters alone. -/
theorem State.Inv_congr (s t : State) (hv : t.vram = s.vram) (ht : t.tiles = s.tiles)
    (hm : t.hostMem = s.hostMem) (hp : t.params = s.params) (h : s.Inv) : t.Inv :=
  ⟨State.memoryWf_congr s t hv ht hm hp h.1, State.tilesConsistent_congr s t hv ht h.2⟩

/-- A device write at an offset that exists keeps the canonical forms. -/
theorem State.memoryWf_videoWrite (s : State) (o : Nat) (v : Byte) (ho : o < 0x2000) (h : s.memoryWf) :
    (s.videoWrite o v).memoryWf := by
  obtain ⟨hv, hm, ht, hvk, htk, hmk⟩ := h
  have hv' : memWf (sparsePut fillByte s.vram o v) = true := sparseWf_put fillByte s.vram o v hv
  have hvk' : ∀ e ∈ sparsePut fillByte s.vram o v, e.1 < 0x2000 := fun e he => by
    rcases mem_sparsePut fillByte s.vram o v e he with ⟨rfl, -⟩ | he
    · exact ho
    · exact hvk e he
  unfold State.videoWrite
  simp only
  split
  · next hw =>
    refine ⟨hv', hm, sparseWf_put blankRow s.tiles _ _ ht, hvk', fun e he => ?_, hmk⟩
    rcases mem_sparsePut blankRow s.tiles _ _ e he with ⟨rfl, -⟩ | he
    · simp only [tileKey]; omega
    · exact htk e he
  · exact ⟨hv', hm, ht, hvk', htk, hmk⟩

/-- A store to a mapped address keeps the invariant. -/
theorem State.Inv_storeByte (s : State) (x : Word) (v : Byte) (hx : s.mapped x = true) (h : s.Inv) :
    (s.storeByte x v).Inv := by
  unfold State.storeByte
  split
  · next hw =>
    have := (inVideo_eq_true x).mp hw
    have ho := videoOffset_eq x hw
    exact ⟨State.memoryWf_videoWrite s _ v (by omega) h.1, State.tilesConsistent_videoWrite s _ v h.2⟩
  · next hw =>
    have hown : hostOwns s.params x = true := by
      simpa [State.mapped, hw] using hx
    obtain ⟨⟨hv, hm, ht, hvk, htk, hmk⟩, hc⟩ := h
    refine ⟨⟨hv, sparseWf_put fillByte s.hostMem _ v hm, ht, hvk, htk, fun e he => ?_⟩, hc⟩
    rcases mem_sparsePut fillByte s.hostMem _ v e he with ⟨rfl, -⟩ | he
    · exact ⟨x.isLt, by simpa using hown⟩
    · exact hmk e he

/-- A push to two mapped addresses keeps the invariant. -/
theorem State.Inv_pushed (s : State) (v : Word) (h1 : s.mapped (s.sp - 1) = true) (h2 : s.mapped (s.sp - 2) = true)
    (h : s.Inv) : (s.pushed v).Inv := by
  refine State.Inv_congr _ _ rfl rfl rfl rfl
    (State.Inv_storeByte (s.storeByte (s.sp - 1) (v.extractLsb' 8 8)) (s.sp - 2) (v.extractLsb' 0 8) ?_
      (State.Inv_storeByte s (s.sp - 1) (v.extractLsb' 8 8) h1 h))
  simpa using h2

end Sys2Proof.Machine
end

