-- ==== Sys2Proof/Tests/DecodeGrid.lean ====
section
/-! SUPPORT. Every constructor's decoding, shown by the word the spec's opcode maps give it: the main space in 16 rows of
16 bytes (spec/30_encoding.md R91 to R94), the secondary space in 32 rows of 8 (R95). -/

namespace Sys2Proof.Tests

theorem test_decode_main_row_0x :
    [(0x00 : Byte), 0x01, 0x02, 0x03, 0x04, 0x05, 0x06, 0x07, 0x08, 0x09, 0x0A, 0x0B, 0x0C, 0x0D, 0x0E, 0x0F].map decodeMain =
      [.nop, .unrecognized_01, .unrecognized_02, .inc_BC, .inc_B, .dec_B, .ld_B_n, .rlca,
       .unrecognized_08, .add_HL_BC, .unrecognized_0A, .dec_BC, .inc_C, .dec_C, .ld_C_n, .rrca] := by
  decide

theorem test_decode_main_row_1x :
    [(0x10 : Byte), 0x11, 0x12, 0x13, 0x14, 0x15, 0x16, 0x17, 0x18, 0x19, 0x1A, 0x1B, 0x1C, 0x1D, 0x1E, 0x1F].map decodeMain =
      [.unrecognized_10, .unrecognized_11, .unrecognized_12, .inc_DE, .inc_D, .dec_D, .ld_D_n, .rla,
       .unrecognized_18, .add_HL_DE, .unrecognized_1A, .dec_DE, .inc_E, .dec_E, .ld_E_n, .rra] := by
  decide

theorem test_decode_main_row_2x :
    [(0x20 : Byte), 0x21, 0x22, 0x23, 0x24, 0x25, 0x26, 0x27, 0x28, 0x29, 0x2A, 0x2B, 0x2C, 0x2D, 0x2E, 0x2F].map decodeMain =
      [.unrecognized_20, .unrecognized_21, .unrecognized_22, .inc_HL, .inc_H, .dec_H, .ld_H_n, .unrecognized_27,
       .unrecognized_28, .add_HL_HL, .unrecognized_2A, .dec_HL, .inc_L, .dec_L, .ld_L_n, .unrecognized_2F] := by
  decide

theorem test_decode_main_row_3x :
    [(0x30 : Byte), 0x31, 0x32, 0x33, 0x34, 0x35, 0x36, 0x37, 0x38, 0x39, 0x3A, 0x3B, 0x3C, 0x3D, 0x3E, 0x3F].map decodeMain =
      [.unrecognized_30, .unrecognized_31, .unrecognized_32, .inc_SP, .inc_mHL, .dec_mHL, .ld_mHL_n, .unrecognized_37,
       .unrecognized_38, .add_HL_SP, .unrecognized_3A, .dec_SP, .inc_A, .dec_A, .ld_A_n, .unrecognized_3F] := by
  decide

theorem test_decode_main_row_4x :
    [(0x40 : Byte), 0x41, 0x42, 0x43, 0x44, 0x45, 0x46, 0x47, 0x48, 0x49, 0x4A, 0x4B, 0x4C, 0x4D, 0x4E, 0x4F].map decodeMain =
      [.ld_B_B, .ld_B_C, .ld_B_D, .ld_B_E, .ld_B_H, .ld_B_L, .ld_B_mHL, .ld_B_A,
       .ld_C_B, .ld_C_C, .ld_C_D, .ld_C_E, .ld_C_H, .ld_C_L, .ld_C_mHL, .ld_C_A] := by
  decide

theorem test_decode_main_row_5x :
    [(0x50 : Byte), 0x51, 0x52, 0x53, 0x54, 0x55, 0x56, 0x57, 0x58, 0x59, 0x5A, 0x5B, 0x5C, 0x5D, 0x5E, 0x5F].map decodeMain =
      [.ld_D_B, .ld_D_C, .ld_D_D, .ld_D_E, .ld_D_H, .ld_D_L, .ld_D_mHL, .ld_D_A,
       .ld_E_B, .ld_E_C, .ld_E_D, .ld_E_E, .ld_E_H, .ld_E_L, .ld_E_mHL, .ld_E_A] := by
  decide

theorem test_decode_main_row_6x :
    [(0x60 : Byte), 0x61, 0x62, 0x63, 0x64, 0x65, 0x66, 0x67, 0x68, 0x69, 0x6A, 0x6B, 0x6C, 0x6D, 0x6E, 0x6F].map decodeMain =
      [.ld_H_B, .ld_H_C, .ld_H_D, .ld_H_E, .ld_H_H, .ld_H_L, .ld_H_mHL, .ld_H_A,
       .ld_L_B, .ld_L_C, .ld_L_D, .ld_L_E, .ld_L_H, .ld_L_L, .ld_L_mHL, .ld_L_A] := by
  decide

theorem test_decode_main_row_7x :
    [(0x70 : Byte), 0x71, 0x72, 0x73, 0x74, 0x75, 0x76, 0x77, 0x78, 0x79, 0x7A, 0x7B, 0x7C, 0x7D, 0x7E, 0x7F].map decodeMain =
      [.ld_mHL_B, .ld_mHL_C, .ld_mHL_D, .ld_mHL_E, .ld_mHL_H, .ld_mHL_L, .halt, .ld_mHL_A,
       .ld_A_B, .ld_A_C, .ld_A_D, .ld_A_E, .ld_A_H, .ld_A_L, .ld_A_mHL, .ld_A_A] := by
  decide

theorem test_decode_main_row_8x :
    [(0x80 : Byte), 0x81, 0x82, 0x83, 0x84, 0x85, 0x86, 0x87, 0x88, 0x89, 0x8A, 0x8B, 0x8C, 0x8D, 0x8E, 0x8F].map decodeMain =
      [.add_A_B, .add_A_C, .add_A_D, .add_A_E, .add_A_H, .add_A_L, .add_A_mHL, .add_A_A,
       .adc_A_B, .adc_A_C, .adc_A_D, .adc_A_E, .adc_A_H, .adc_A_L, .adc_A_mHL, .adc_A_A] := by
  decide

theorem test_decode_main_row_9x :
    [(0x90 : Byte), 0x91, 0x92, 0x93, 0x94, 0x95, 0x96, 0x97, 0x98, 0x99, 0x9A, 0x9B, 0x9C, 0x9D, 0x9E, 0x9F].map decodeMain =
      [.sub_B, .sub_C, .sub_D, .sub_E, .sub_H, .sub_L, .sub_mHL, .sub_A,
       .sbc_A_B, .sbc_A_C, .sbc_A_D, .sbc_A_E, .sbc_A_H, .sbc_A_L, .sbc_A_mHL, .sbc_A_A] := by
  decide

theorem test_decode_main_row_Ax :
    [(0xA0 : Byte), 0xA1, 0xA2, 0xA3, 0xA4, 0xA5, 0xA6, 0xA7, 0xA8, 0xA9, 0xAA, 0xAB, 0xAC, 0xAD, 0xAE, 0xAF].map decodeMain =
      [.and_B, .and_C, .and_D, .and_E, .and_H, .and_L, .and_mHL, .and_A,
       .xor_B, .xor_C, .xor_D, .xor_E, .xor_H, .xor_L, .xor_mHL, .xor_A] := by
  decide

theorem test_decode_main_row_Bx :
    [(0xB0 : Byte), 0xB1, 0xB2, 0xB3, 0xB4, 0xB5, 0xB6, 0xB7, 0xB8, 0xB9, 0xBA, 0xBB, 0xBC, 0xBD, 0xBE, 0xBF].map decodeMain =
      [.or_B, .or_C, .or_D, .or_E, .or_H, .or_L, .or_mHL, .or_A,
       .cp_B, .cp_C, .cp_D, .cp_E, .cp_H, .cp_L, .cp_mHL, .cp_A] := by
  decide

theorem test_decode_main_row_Cx :
    [(0xC0 : Byte), 0xC1, 0xC2, 0xC3, 0xC4, 0xC5, 0xC6, 0xC7, 0xC8, 0xC9, 0xCA, 0xCB, 0xCC, 0xCD, 0xCE, 0xCF].map decodeMain =
      [.ret_NZ, .pop_BC, .jp_NZ_nn, .jp_nn, .call_NZ_nn, .push_BC, .add_A_n, .unrecognized_C7,
       .ret_Z, .ret, .jp_Z_nn, .prefix_CB, .call_Z_nn, .call_nn, .adc_A_n, .unrecognized_CF] := by
  decide

theorem test_decode_main_row_Dx :
    [(0xD0 : Byte), 0xD1, 0xD2, 0xD3, 0xD4, 0xD5, 0xD6, 0xD7, 0xD8, 0xD9, 0xDA, 0xDB, 0xDC, 0xDD, 0xDE, 0xDF].map decodeMain =
      [.ret_NC, .pop_DE, .jp_NC_nn, .unrecognized_D3, .call_NC_nn, .push_DE, .sub_n, .unrecognized_D7,
       .ret_C, .unrecognized_D9, .jp_C_nn, .unrecognized_DB, .call_C_nn, .unrecognized_DD, .sbc_A_n, .unrecognized_DF] := by
  decide

theorem test_decode_main_row_Ex :
    [(0xE0 : Byte), 0xE1, 0xE2, 0xE3, 0xE4, 0xE5, 0xE6, 0xE7, 0xE8, 0xE9, 0xEA, 0xEB, 0xEC, 0xED, 0xEE, 0xEF].map decodeMain =
      [.unrecognized_E0, .pop_HL, .unrecognized_E2, .unrecognized_E3, .unrecognized_E4, .push_HL, .and_n, .unrecognized_E7,
       .unrecognized_E8, .unrecognized_E9, .unrecognized_EA, .unrecognized_EB, .unrecognized_EC, .unrecognized_ED, .xor_n, .unrecognized_EF] := by
  decide

theorem test_decode_main_row_Fx :
    [(0xF0 : Byte), 0xF1, 0xF2, 0xF3, 0xF4, 0xF5, 0xF6, 0xF7, 0xF8, 0xF9, 0xFA, 0xFB, 0xFC, 0xFD, 0xFE, 0xFF].map decodeMain =
      [.unrecognized_F0, .pop_AF, .unrecognized_F2, .unrecognized_F3, .unrecognized_F4, .push_AF, .or_n, .unrecognized_F7,
       .unrecognized_F8, .unrecognized_F9, .unrecognized_FA, .unrecognized_FB, .unrecognized_FC, .unrecognized_FD, .cp_n, .unrecognized_FF] := by
  decide

theorem test_decode_cb_row_00 :
    [(0x00 : Byte), 0x01, 0x02, 0x03, 0x04, 0x05, 0x06, 0x07].map decodeCb =
      [.rlc_B, .rlc_C, .rlc_D, .rlc_E, .rlc_H, .rlc_L, .rlc_mHL, .rlc_A] := by
  decide

theorem test_decode_cb_row_08 :
    [(0x08 : Byte), 0x09, 0x0A, 0x0B, 0x0C, 0x0D, 0x0E, 0x0F].map decodeCb =
      [.rrc_B, .rrc_C, .rrc_D, .rrc_E, .rrc_H, .rrc_L, .rrc_mHL, .rrc_A] := by
  decide

theorem test_decode_cb_row_10 :
    [(0x10 : Byte), 0x11, 0x12, 0x13, 0x14, 0x15, 0x16, 0x17].map decodeCb =
      [.rl_B, .rl_C, .rl_D, .rl_E, .rl_H, .rl_L, .rl_mHL, .rl_A] := by
  decide

theorem test_decode_cb_row_18 :
    [(0x18 : Byte), 0x19, 0x1A, 0x1B, 0x1C, 0x1D, 0x1E, 0x1F].map decodeCb =
      [.rr_B, .rr_C, .rr_D, .rr_E, .rr_H, .rr_L, .rr_mHL, .rr_A] := by
  decide

theorem test_decode_cb_row_20 :
    [(0x20 : Byte), 0x21, 0x22, 0x23, 0x24, 0x25, 0x26, 0x27].map decodeCb =
      [.sla_B, .sla_C, .sla_D, .sla_E, .sla_H, .sla_L, .sla_mHL, .sla_A] := by
  decide

theorem test_decode_cb_row_28 :
    [(0x28 : Byte), 0x29, 0x2A, 0x2B, 0x2C, 0x2D, 0x2E, 0x2F].map decodeCb =
      [.sra_B, .sra_C, .sra_D, .sra_E, .sra_H, .sra_L, .sra_mHL, .sra_A] := by
  decide

theorem test_decode_cb_row_30 :
    [(0x30 : Byte), 0x31, 0x32, 0x33, 0x34, 0x35, 0x36, 0x37].map decodeCb =
      [.swap_B, .swap_C, .swap_D, .swap_E, .swap_H, .swap_L, .swap_mHL, .swap_A] := by
  decide

theorem test_decode_cb_row_38 :
    [(0x38 : Byte), 0x39, 0x3A, 0x3B, 0x3C, 0x3D, 0x3E, 0x3F].map decodeCb =
      [.srl_B, .srl_C, .srl_D, .srl_E, .srl_H, .srl_L, .srl_mHL, .srl_A] := by
  decide

theorem test_decode_cb_row_40 :
    [(0x40 : Byte), 0x41, 0x42, 0x43, 0x44, 0x45, 0x46, 0x47].map decodeCb =
      [.bit_0_B, .bit_0_C, .bit_0_D, .bit_0_E, .bit_0_H, .bit_0_L, .bit_0_mHL, .bit_0_A] := by
  decide

theorem test_decode_cb_row_48 :
    [(0x48 : Byte), 0x49, 0x4A, 0x4B, 0x4C, 0x4D, 0x4E, 0x4F].map decodeCb =
      [.bit_1_B, .bit_1_C, .bit_1_D, .bit_1_E, .bit_1_H, .bit_1_L, .bit_1_mHL, .bit_1_A] := by
  decide

theorem test_decode_cb_row_50 :
    [(0x50 : Byte), 0x51, 0x52, 0x53, 0x54, 0x55, 0x56, 0x57].map decodeCb =
      [.bit_2_B, .bit_2_C, .bit_2_D, .bit_2_E, .bit_2_H, .bit_2_L, .bit_2_mHL, .bit_2_A] := by
  decide

theorem test_decode_cb_row_58 :
    [(0x58 : Byte), 0x59, 0x5A, 0x5B, 0x5C, 0x5D, 0x5E, 0x5F].map decodeCb =
      [.bit_3_B, .bit_3_C, .bit_3_D, .bit_3_E, .bit_3_H, .bit_3_L, .bit_3_mHL, .bit_3_A] := by
  decide

theorem test_decode_cb_row_60 :
    [(0x60 : Byte), 0x61, 0x62, 0x63, 0x64, 0x65, 0x66, 0x67].map decodeCb =
      [.bit_4_B, .bit_4_C, .bit_4_D, .bit_4_E, .bit_4_H, .bit_4_L, .bit_4_mHL, .bit_4_A] := by
  decide

theorem test_decode_cb_row_68 :
    [(0x68 : Byte), 0x69, 0x6A, 0x6B, 0x6C, 0x6D, 0x6E, 0x6F].map decodeCb =
      [.bit_5_B, .bit_5_C, .bit_5_D, .bit_5_E, .bit_5_H, .bit_5_L, .bit_5_mHL, .bit_5_A] := by
  decide

theorem test_decode_cb_row_70 :
    [(0x70 : Byte), 0x71, 0x72, 0x73, 0x74, 0x75, 0x76, 0x77].map decodeCb =
      [.bit_6_B, .bit_6_C, .bit_6_D, .bit_6_E, .bit_6_H, .bit_6_L, .bit_6_mHL, .bit_6_A] := by
  decide

theorem test_decode_cb_row_78 :
    [(0x78 : Byte), 0x79, 0x7A, 0x7B, 0x7C, 0x7D, 0x7E, 0x7F].map decodeCb =
      [.bit_7_B, .bit_7_C, .bit_7_D, .bit_7_E, .bit_7_H, .bit_7_L, .bit_7_mHL, .bit_7_A] := by
  decide

theorem test_decode_cb_row_80 :
    [(0x80 : Byte), 0x81, 0x82, 0x83, 0x84, 0x85, 0x86, 0x87].map decodeCb =
      [.res_0_B, .res_0_C, .res_0_D, .res_0_E, .res_0_H, .res_0_L, .res_0_mHL, .res_0_A] := by
  decide

theorem test_decode_cb_row_88 :
    [(0x88 : Byte), 0x89, 0x8A, 0x8B, 0x8C, 0x8D, 0x8E, 0x8F].map decodeCb =
      [.res_1_B, .res_1_C, .res_1_D, .res_1_E, .res_1_H, .res_1_L, .res_1_mHL, .res_1_A] := by
  decide

theorem test_decode_cb_row_90 :
    [(0x90 : Byte), 0x91, 0x92, 0x93, 0x94, 0x95, 0x96, 0x97].map decodeCb =
      [.res_2_B, .res_2_C, .res_2_D, .res_2_E, .res_2_H, .res_2_L, .res_2_mHL, .res_2_A] := by
  decide

theorem test_decode_cb_row_98 :
    [(0x98 : Byte), 0x99, 0x9A, 0x9B, 0x9C, 0x9D, 0x9E, 0x9F].map decodeCb =
      [.res_3_B, .res_3_C, .res_3_D, .res_3_E, .res_3_H, .res_3_L, .res_3_mHL, .res_3_A] := by
  decide

theorem test_decode_cb_row_A0 :
    [(0xA0 : Byte), 0xA1, 0xA2, 0xA3, 0xA4, 0xA5, 0xA6, 0xA7].map decodeCb =
      [.res_4_B, .res_4_C, .res_4_D, .res_4_E, .res_4_H, .res_4_L, .res_4_mHL, .res_4_A] := by
  decide

theorem test_decode_cb_row_A8 :
    [(0xA8 : Byte), 0xA9, 0xAA, 0xAB, 0xAC, 0xAD, 0xAE, 0xAF].map decodeCb =
      [.res_5_B, .res_5_C, .res_5_D, .res_5_E, .res_5_H, .res_5_L, .res_5_mHL, .res_5_A] := by
  decide

theorem test_decode_cb_row_B0 :
    [(0xB0 : Byte), 0xB1, 0xB2, 0xB3, 0xB4, 0xB5, 0xB6, 0xB7].map decodeCb =
      [.res_6_B, .res_6_C, .res_6_D, .res_6_E, .res_6_H, .res_6_L, .res_6_mHL, .res_6_A] := by
  decide

theorem test_decode_cb_row_B8 :
    [(0xB8 : Byte), 0xB9, 0xBA, 0xBB, 0xBC, 0xBD, 0xBE, 0xBF].map decodeCb =
      [.res_7_B, .res_7_C, .res_7_D, .res_7_E, .res_7_H, .res_7_L, .res_7_mHL, .res_7_A] := by
  decide

theorem test_decode_cb_row_C0 :
    [(0xC0 : Byte), 0xC1, 0xC2, 0xC3, 0xC4, 0xC5, 0xC6, 0xC7].map decodeCb =
      [.set_0_B, .set_0_C, .set_0_D, .set_0_E, .set_0_H, .set_0_L, .set_0_mHL, .set_0_A] := by
  decide

theorem test_decode_cb_row_C8 :
    [(0xC8 : Byte), 0xC9, 0xCA, 0xCB, 0xCC, 0xCD, 0xCE, 0xCF].map decodeCb =
      [.set_1_B, .set_1_C, .set_1_D, .set_1_E, .set_1_H, .set_1_L, .set_1_mHL, .set_1_A] := by
  decide

theorem test_decode_cb_row_D0 :
    [(0xD0 : Byte), 0xD1, 0xD2, 0xD3, 0xD4, 0xD5, 0xD6, 0xD7].map decodeCb =
      [.set_2_B, .set_2_C, .set_2_D, .set_2_E, .set_2_H, .set_2_L, .set_2_mHL, .set_2_A] := by
  decide

theorem test_decode_cb_row_D8 :
    [(0xD8 : Byte), 0xD9, 0xDA, 0xDB, 0xDC, 0xDD, 0xDE, 0xDF].map decodeCb =
      [.set_3_B, .set_3_C, .set_3_D, .set_3_E, .set_3_H, .set_3_L, .set_3_mHL, .set_3_A] := by
  decide

theorem test_decode_cb_row_E0 :
    [(0xE0 : Byte), 0xE1, 0xE2, 0xE3, 0xE4, 0xE5, 0xE6, 0xE7].map decodeCb =
      [.set_4_B, .set_4_C, .set_4_D, .set_4_E, .set_4_H, .set_4_L, .set_4_mHL, .set_4_A] := by
  decide

theorem test_decode_cb_row_E8 :
    [(0xE8 : Byte), 0xE9, 0xEA, 0xEB, 0xEC, 0xED, 0xEE, 0xEF].map decodeCb =
      [.set_5_B, .set_5_C, .set_5_D, .set_5_E, .set_5_H, .set_5_L, .set_5_mHL, .set_5_A] := by
  decide

theorem test_decode_cb_row_F0 :
    [(0xF0 : Byte), 0xF1, 0xF2, 0xF3, 0xF4, 0xF5, 0xF6, 0xF7].map decodeCb =
      [.set_6_B, .set_6_C, .set_6_D, .set_6_E, .set_6_H, .set_6_L, .set_6_mHL, .set_6_A] := by
  decide

theorem test_decode_cb_row_F8 :
    [(0xF8 : Byte), 0xF9, 0xFA, 0xFB, 0xFC, 0xFD, 0xFE, 0xFF].map decodeCb =
      [.set_7_B, .set_7_C, .set_7_D, .set_7_E, .set_7_H, .set_7_L, .set_7_mHL, .set_7_A] := by
  decide

end Sys2Proof.Tests
end

