-- ==== Sys2Proof/Tests/Slice0.lean ====
section
/-! SUPPORT. Tests: the WellFormed smoke, one-step vectors, and the witnesses of the statements' hypotheses. Expected
results are those of spec/95_test_vectors.md, by the vector's name, or of the `Example` line of the rule named; the
decoding of every constructor is in Tests/DecodeGrid.lean. -/

namespace Sys2Proof.Tests

open Sys2Proof.Machine

/-! ### WellFormed: an ill-formed term for each check -/

/-- R98: the byte 0x01 is no instruction. -/
theorem test_unrecognized_is_ill_formed :
    Instr.recognized .unrecognized_01 = false ∧ Instr.wellFormed .unrecognized_01 = false := by decide

/-- R102: the byte 0xCB by itself is no instruction. -/
theorem test_prefix_alone_is_ill_formed : Instr.whole .prefix_CB = false ∧ Instr.wellFormed .prefix_CB = false := by decide

theorem test_nop_is_well_formed : Instr.wellFormed .nop = true := by decide

/-! ### Small states

`vec` is the machine of the vectors: the program at 0x9800 in the video window, no host memory. -/

/-- HOST_REGION = STRICT, PC = 0x9800, SP = 0x9F00, everything else at its reset value. -/
def vec : State :=
  { State.boot { defaultParams with hostRegion := strictRegion } [] with pc := 0x9800, sp := 0x9F00 }

/-- The machine with a program's bytes at PC. -/
def code (bytes : List Byte) (s : State) : State := s.placeBytes s.pc bytes

/-- What is seen of the next state, where there is one. -/
def see {α : Type} (f : State → α) (r : Result) : Option α :=
  match r with
  | .next t => some (f t)
  | _ => none

/-- The fault, where the machine stops with one. -/
def stop (r : Result) : Option Fault :=
  match r with
  | .fault w => some w
  | _ => none

/-- A row of eight pixels, pixel 0 first. -/
def row (p0 p1 p2 p3 p4 p5 p6 p7 : BitVec 2) : TileRow := ⟨p0, p1, p2, p3, p4, p5, p6, p7⟩

/-! ### One step of each family -/

/-- V-ADD-1. -/
theorem test_add_wraps_with_half_carry :
    see (fun t => (t.a, t.fByte, t.pc))
      (step (code [0x80] { vec with a := 0x3A, b := 0xC6, flags := flagsOfByte 0x00 })) =
      some (0x00, 0xB0, 0x9801) := by decide

/-- V-ADD-4. -/
theorem test_add_ignores_old_carry :
    see (fun t => (t.a, t.fByte, t.pc))
      (step (code [0x80] { vec with a := 0x00, b := 0x00, flags := flagsOfByte 0x10 })) =
      some (0x00, 0x80, 0x9801) := by decide

/-- V-ADD-6. -/
theorem test_add_A_A :
    see (fun t => (t.a, t.fByte, t.pc))
      (step (code [0x87] { vec with a := 0x80, b := 0x00, flags := flagsOfByte 0x00 })) =
      some (0x00, 0x90, 0x9801) := by decide

/-- V-ADC-1. -/
theorem test_adc_half_carry_from_carry_in :
    see (fun t => (t.a, t.fByte, t.pc))
      (step (code [0x88] { vec with a := 0x0F, b := 0x00, flags := flagsOfByte 0x10 })) =
      some (0x10, 0x20, 0x9801) := by decide

/-- V-ADC-3. -/
theorem test_adc_carry_from_carry_in :
    see (fun t => (t.a, t.fByte, t.pc))
      (step (code [0x88] { vec with a := 0x7F, b := 0x80, flags := flagsOfByte 0x10 })) =
      some (0x00, 0xB0, 0x9801) := by decide

/-- V-SUB-1. -/
theorem test_sub_borrows :
    see (fun t => (t.a, t.fByte, t.pc))
      (step (code [0x90] { vec with a := 0x00, b := 0x01, flags := flagsOfByte 0x00 })) =
      some (0xFF, 0x70, 0x9801) := by decide

/-- V-SUB-2. -/
theorem test_sub_ignores_old_carry :
    see (fun t => (t.a, t.fByte, t.pc))
      (step (code [0x90] { vec with a := 0x10, b := 0x01, flags := flagsOfByte 0x10 })) =
      some (0x0F, 0x60, 0x9801) := by decide

/-- V-SBC-1. -/
theorem test_sbc_256 :
    see (fun t => (t.a, t.fByte, t.pc))
      (step (code [0x98] { vec with a := 0x00, b := 0xFF, flags := flagsOfByte 0x10 })) =
      some (0x00, 0xF0, 0x9801) := by decide

/-- V-SBC-2. -/
theorem test_sbc_half_borrow_from_carry_in :
    see (fun t => (t.a, t.fByte, t.pc))
      (step (code [0x98] { vec with a := 0x10, b := 0x0F, flags := flagsOfByte 0x10 })) =
      some (0x00, 0xE0, 0x9801) := by decide

/-- V-SBC-6. -/
theorem test_sbc_A_A :
    see (fun t => (t.a, t.fByte, t.pc))
      (step (code [0x9F] { vec with a := 0x77, b := 0x00, flags := flagsOfByte 0x10 })) =
      some (0xFF, 0x70, 0x9801) := by decide

/-- V-AND-2. -/
theorem test_and_sets_half_carry :
    see (fun t => (t.a, t.fByte, t.pc))
      (step (code [0xA0] { vec with a := 0xAA, b := 0xCC, flags := flagsOfByte 0x10 })) =
      some (0x88, 0x20, 0x9801) := by decide

/-- V-XOR-1. -/
theorem test_xor_clears_carry :
    see (fun t => (t.a, t.fByte, t.pc))
      (step (code [0xA8] { vec with a := 0xAA, b := 0xAA, flags := flagsOfByte 0x10 })) =
      some (0x00, 0x80, 0x9801) := by decide

/-- V-OR-2. -/
theorem test_or_clears_carry :
    see (fun t => (t.a, t.fByte, t.pc))
      (step (code [0xB0] { vec with a := 0xA0, b := 0x05, flags := flagsOfByte 0x10 })) =
      some (0xA5, 0x00, 0x9801) := by decide

/-- V-CP-1. -/
theorem test_cp_keeps_accumulator :
    see (fun t => (t.a, t.fByte, t.pc))
      (step (code [0xB8] { vec with a := 0x00, b := 0x01, flags := flagsOfByte 0x00 })) =
      some (0x00, 0x70, 0x9801) := by decide

/-- V-CP-2. -/
theorem test_cp_equal :
    see (fun t => (t.a, t.fByte, t.pc))
      (step (code [0xB8] { vec with a := 0x42, b := 0x42, flags := flagsOfByte 0x10 })) =
      some (0x42, 0xC0, 0x9801) := by decide

/-- V-ADDHL-2 (S6). -/
theorem test_add_HL_keeps_zero_flag :
    see (fun t => (t.hl, t.fByte, t.pc))
      (step (code [0x09] { vec with h := 0xFF, l := 0xFF, b := 0x00, c := 0x01, flags := flagsOfByte 0x00 })) =
      some (0x0000, 0x30, 0x9801) := by decide

/-- V-ADDHL-4 (conflict C1). -/
theorem test_add_HL_half_carry_out_of_bit_11 :
    see (fun t => (t.hl, t.fByte, t.pc))
      (step (code [0x09] { vec with h := 0x08, l := 0x00, b := 0x08, c := 0x00, flags := flagsOfByte 0x40 })) =
      some (0x1000, 0x20, 0x9801) := by decide

/-- V-ADDHL-9. -/
theorem test_add_HL_HL :
    see (fun t => (t.hl, t.fByte, t.pc))
      (step (code [0x29] { vec with h := 0x88, l := 0x00, b := 0x00, c := 0x00, flags := flagsOfByte 0x80 })) =
      some (0x1000, 0xB0, 0x9801) := by decide

/-- V-ADDHL-10. -/
theorem test_add_HL_SP :
    see (fun t => (t.hl, t.fByte, t.pc))
      (step (code [0x39] { vec with h := 0x00, l := 0x01, b := 0x00, c := 0x00, flags := flagsOfByte 0x00, sp := 0xFFFF })) =
      some (0x0000, 0x30, 0x9801) := by decide

/-- V-INC-4. -/
theorem test_inc_wraps_and_keeps_carry :
    see (fun t => (t.b, t.fByte, t.pc)) (step (code [0x04] { vec with b := 0xFF, flags := flagsOfByte 0x00 })) =
      some (0x00, 0xA0, 0x9801) := by decide

/-- V-INC-5. -/
theorem test_inc_clears_subtract :
    see (fun t => (t.b, t.fByte, t.pc)) (step (code [0x04] { vec with b := 0x7F, flags := flagsOfByte 0xF0 })) =
      some (0x80, 0x30, 0x9801) := by decide

/-- V-DEC-1. -/
theorem test_dec_wraps_and_keeps_carry :
    see (fun t => (t.b, t.fByte, t.pc)) (step (code [0x05] { vec with b := 0x00, flags := flagsOfByte 0x10 })) =
      some (0xFF, 0x70, 0x9801) := by decide

/-- V-DEC-5. -/
theorem test_dec_to_zero :
    see (fun t => (t.b, t.fByte, t.pc)) (step (code [0x05] { vec with b := 0x01, flags := flagsOfByte 0x10 })) =
      some (0x00, 0xD0, 0x9801) := by decide

/-- V-INC16-1. -/
theorem test_inc_BC_carries_into_B :
    see (fun t => (t.b, t.c, t.fByte)) (step (code [0x03] { vec with c := 0xFF, flags := flagsOfByte 0xF0 })) =
      some (0x01, 0x00, 0xF0) := by decide

/-- V-INC16-3. -/
theorem test_inc_SP_wraps :
    see (fun t => (t.sp, t.pc)) (step (code [0x33] { vec with sp := 0xFFFF })) =
      some (0x0000, 0x9801) := by decide

/-- V-DEC16-1. -/
theorem test_dec_HL_borrows_from_H :
    see (fun t => (t.h, t.l)) (step (code [0x2B] { vec with h := 0x01 })) =
      some (0x00, 0xFF) := by decide

/-- V-DEC16-3. -/
theorem test_dec_SP_wraps :
    see (fun t => (t.sp, t.pc)) (step (code [0x3B] { vec with sp := 0x0000 })) =
      some (0xFFFF, 0x9801) := by decide

/-- V-INCM-1. -/
theorem test_inc_mHL :
    see (fun t => (t.byteAt 0x9900, t.fByte))
      (step (code [0x34] { vec with h := 0x99, l := 0x00, vram := [(0x1900, 0xFF)], flags := flagsOfByte 0x10 })) =
      some (0x00, 0xB0) := by decide

/-- V-DECM-1. -/
theorem test_dec_mHL :
    see (fun t => (t.byteAt 0x9900, t.fByte))
      (step (code [0x35] { vec with h := 0x99, l := 0x00, flags := flagsOfByte 0x00 })) =
      some (0xFF, 0x60) := by decide

/-- V-PUSH-2 with the bytes of rule R158's example. -/
theorem test_push_HL :
    see (fun t => (t.byteAt 0x8FFF, t.byteAt 0x8FFE, t.sp))
      (step (code [0xE5] { vec with h := 0x12, l := 0x34, sp := 0x9000 })) =
      some (0x12, 0x34, 0x8FFE) := by decide

/-- V-PUSH-3. -/
theorem test_push_AF :
    see (fun t => (t.byteAt 0x8FFF, t.byteAt 0x8FFE, t.sp))
      (step (code [0xF5] { vec with a := 0xAB, flags := flagsOfByte 0xF0, sp := 0x9000 })) =
      some (0xAB, 0xF0, 0x8FFE) := by decide

/-- V-POP-1. -/
theorem test_pop_AF_drops_low_nibble :
    see (fun t => (t.a, t.fByte, t.sp, t.pc))
      (step (code [0xF1] { vec with sp := 0x9000, vram := [(0x1000, 0x5F), (0x1001, 0xCD)] })) =
      some (0xCD, 0x50, 0x9002, 0x9801) := by decide

/-- R160, example. -/
theorem test_pop_DE :
    see (fun t => (t.d, t.e, t.sp))
      (step (code [0xD1] { vec with sp := 0x8FFE, vram := [(0x0FFE, 0x34), (0x0FFF, 0x12)] })) =
      some (0x12, 0x34, 0x9000) := by decide

/-- V-CALL-3. -/
theorem test_call_with_stack_on_operand :
    see (fun t => (t.pc, t.sp, t.byteAt 0x9802, t.byteAt 0x9801))
      (step (code [0xCD, 0x00, 0x90] { vec with sp := 0x9803 })) =
      some (0x9803, 0x9801, 0x98, 0x03) := by decide

/-- V-CALL-4. -/
theorem test_call_with_low_byte_on_operand :
    see (fun t => (t.pc, t.sp)) (step (code [0xCD, 0x00, 0x90] { vec with sp := 0x9804 })) =
      some (0x0300, 0x9802) := by decide

/-- R166, example. -/
theorem test_ret :
    see (fun t => (t.pc, t.sp))
      (step (code [0xC9] { vec with sp := 0x8FFE, vram := [(0x0FFE, 0x03), (0x0FFF, 0x01)] })) =
      some (0x0103, 0x9000) := by decide

/-- V-JP-1. -/
theorem test_jp_to_itself :
    see (fun t => t.pc) (step (code [0xC3, 0x00, 0x98] { vec with a := 0x00 })) =
      some 0x9800 := by decide

/-- V-CC-2, V-CC-3. -/
theorem test_jp_NZ_taken :
    see (fun t => t.pc) (step (code [0xC2, 0x34, 0x12] { vec with flags := flagsOfByte 0x10 })) =
      some 0x1234 := by decide

/-- V-CC-2, V-CC-3. -/
theorem test_jp_NZ_not_taken :
    see (fun t => t.pc) (step (code [0xC2, 0x34, 0x12] { vec with flags := flagsOfByte 0x80 })) =
      some 0x9803 := by decide

/-- V-CC-2, V-CC-3. -/
theorem test_call_NZ_taken :
    see (fun t => (t.pc, t.sp, t.byteAt 0x9EFF, t.byteAt 0x9EFE))
      (step (code [0xC4, 0x34, 0x12] { vec with flags := flagsOfByte 0x10 })) =
      some (0x1234, 0x9EFE, 0x98, 0x03) := by decide

/-- V-CC-2, V-CC-3. -/
theorem test_call_NZ_not_taken :
    see (fun t => (t.pc, t.sp)) (step (code [0xC4, 0x34, 0x12] { vec with flags := flagsOfByte 0x80 })) =
      some (0x9803, 0x9F00) := by decide

/-- V-CC-2, V-CC-3. -/
theorem test_ret_NZ_taken :
    see (fun t => (t.pc, t.sp))
      (step (code [0xC0] { vec with flags := flagsOfByte 0x10, vram := [(0x1F00, 0x78), (0x1F01, 0x56)] })) =
      some (0x5678, 0x9F02) := by decide

/-- V-CC-2, V-CC-3. -/
theorem test_ret_NZ_not_taken :
    see (fun t => (t.pc, t.sp)) (step (code [0xC0] { vec with flags := flagsOfByte 0x80 })) =
      some (0x9801, 0x9F00) := by decide

/-- V-CC-2, V-CC-3. -/
theorem test_jp_Z_taken :
    see (fun t => t.pc) (step (code [0xCA, 0x34, 0x12] { vec with flags := flagsOfByte 0x80 })) =
      some 0x1234 := by decide

/-- V-CC-2, V-CC-3. -/
theorem test_jp_Z_not_taken :
    see (fun t => t.pc) (step (code [0xCA, 0x34, 0x12] { vec with flags := flagsOfByte 0x10 })) =
      some 0x9803 := by decide

/-- V-CC-2, V-CC-3. -/
theorem test_call_Z_taken :
    see (fun t => (t.pc, t.sp, t.byteAt 0x9EFF, t.byteAt 0x9EFE))
      (step (code [0xCC, 0x34, 0x12] { vec with flags := flagsOfByte 0x80 })) =
      some (0x1234, 0x9EFE, 0x98, 0x03) := by decide

/-- V-CC-2, V-CC-3. -/
theorem test_call_Z_not_taken :
    see (fun t => (t.pc, t.sp)) (step (code [0xCC, 0x34, 0x12] { vec with flags := flagsOfByte 0x10 })) =
      some (0x9803, 0x9F00) := by decide

/-- V-CC-2, V-CC-3. -/
theorem test_ret_Z_taken :
    see (fun t => (t.pc, t.sp))
      (step (code [0xC8] { vec with flags := flagsOfByte 0x80, vram := [(0x1F00, 0x78), (0x1F01, 0x56)] })) =
      some (0x5678, 0x9F02) := by decide

/-- V-CC-2, V-CC-3. -/
theorem test_ret_Z_not_taken :
    see (fun t => (t.pc, t.sp)) (step (code [0xC8] { vec with flags := flagsOfByte 0x10 })) =
      some (0x9801, 0x9F00) := by decide

/-- V-CC-2, V-CC-3. -/
theorem test_jp_NC_taken :
    see (fun t => t.pc) (step (code [0xD2, 0x34, 0x12] { vec with flags := flagsOfByte 0x80 })) =
      some 0x1234 := by decide

/-- V-CC-2, V-CC-3. -/
theorem test_jp_NC_not_taken :
    see (fun t => t.pc) (step (code [0xD2, 0x34, 0x12] { vec with flags := flagsOfByte 0x10 })) =
      some 0x9803 := by decide

/-- V-CC-2, V-CC-3. -/
theorem test_call_NC_taken :
    see (fun t => (t.pc, t.sp, t.byteAt 0x9EFF, t.byteAt 0x9EFE))
      (step (code [0xD4, 0x34, 0x12] { vec with flags := flagsOfByte 0x80 })) =
      some (0x1234, 0x9EFE, 0x98, 0x03) := by decide

/-- V-CC-2, V-CC-3. -/
theorem test_call_NC_not_taken :
    see (fun t => (t.pc, t.sp)) (step (code [0xD4, 0x34, 0x12] { vec with flags := flagsOfByte 0x10 })) =
      some (0x9803, 0x9F00) := by decide

/-- V-CC-2, V-CC-3. -/
theorem test_ret_NC_taken :
    see (fun t => (t.pc, t.sp))
      (step (code [0xD0] { vec with flags := flagsOfByte 0x80, vram := [(0x1F00, 0x78), (0x1F01, 0x56)] })) =
      some (0x5678, 0x9F02) := by decide

/-- V-CC-2, V-CC-3. -/
theorem test_ret_NC_not_taken :
    see (fun t => (t.pc, t.sp)) (step (code [0xD0] { vec with flags := flagsOfByte 0x10 })) =
      some (0x9801, 0x9F00) := by decide

/-- V-CC-2, V-CC-3. -/
theorem test_jp_C_taken :
    see (fun t => t.pc) (step (code [0xDA, 0x34, 0x12] { vec with flags := flagsOfByte 0x10 })) =
      some 0x1234 := by decide

/-- V-CC-2, V-CC-3. -/
theorem test_jp_C_not_taken :
    see (fun t => t.pc) (step (code [0xDA, 0x34, 0x12] { vec with flags := flagsOfByte 0x80 })) =
      some 0x9803 := by decide

/-- V-CC-2, V-CC-3. -/
theorem test_call_C_taken :
    see (fun t => (t.pc, t.sp, t.byteAt 0x9EFF, t.byteAt 0x9EFE))
      (step (code [0xDC, 0x34, 0x12] { vec with flags := flagsOfByte 0x10 })) =
      some (0x1234, 0x9EFE, 0x98, 0x03) := by decide

/-- V-CC-2, V-CC-3. -/
theorem test_call_C_not_taken :
    see (fun t => (t.pc, t.sp)) (step (code [0xDC, 0x34, 0x12] { vec with flags := flagsOfByte 0x80 })) =
      some (0x9803, 0x9F00) := by decide

/-- V-CC-2, V-CC-3. -/
theorem test_ret_C_taken :
    see (fun t => (t.pc, t.sp))
      (step (code [0xD8] { vec with flags := flagsOfByte 0x10, vram := [(0x1F00, 0x78), (0x1F01, 0x56)] })) =
      some (0x5678, 0x9F02) := by decide

/-- V-CC-2, V-CC-3. -/
theorem test_ret_C_not_taken :
    see (fun t => (t.pc, t.sp)) (step (code [0xD8] { vec with flags := flagsOfByte 0x80 })) =
      some (0x9801, 0x9F00) := by decide

/-- V-LD-1. -/
theorem test_ld_B_C :
    see (fun t => (t.b, t.c, t.fByte, t.pc))
      (step (code [0x41] { vec with b := 0x01, c := 0x02, flags := flagsOfByte 0xF0 })) =
      some (0x02, 0x02, 0xF0, 0x9801) := by decide

/-- V-LD-3. -/
theorem test_ld_H_mHL_address_formed_first :
    see (fun t => (t.h, t.l))
      (step (code [0x66] { vec with h := 0x99, l := 0x00, vram := [(0x1900, 0x12)], flags := flagsOfByte 0x00 })) =
      some (0x12, 0x00) := by decide

/-- V-LD-4. -/
theorem test_ld_L_mHL :
    see (fun t => t.hl)
      (step (code [0x6E] { vec with h := 0x99, l := 0x00, vram := [(0x1900, 0x12)], flags := flagsOfByte 0x00 })) =
      some 0x9912 := by decide

/-- V-LD-5. -/
theorem test_ld_mHL_H :
    see (fun t => t.byteAt 0x9900) (step (code [0x74] { vec with h := 0x99, l := 0x00, flags := flagsOfByte 0x00 })) =
      some 0x99 := by decide

/-- V-LD-7. -/
theorem test_ld_mHL_n :
    see (fun t => (t.byteAt 0x9900, t.pc))
      (step (code [0x36, 0xAB] { vec with h := 0x99, l := 0x00, flags := flagsOfByte 0x00 })) =
      some (0xAB, 0x9802) := by decide

/-- V-LD-8. -/
theorem test_ld_A_n :
    see (fun t => (t.a, t.fByte, t.pc)) (step (code [0x3E, 0xFF] { vec with flags := flagsOfByte 0xA0 })) =
      some (0xFF, 0xA0, 0x9802) := by decide

/-- V-NOP-1. -/
theorem test_nop :
    see (fun t => (t.pc, t.fByte, t.halted)) (step (code [0x00] { vec with flags := flagsOfByte 0xF0 })) =
      some (0x9801, 0xF0, false) := by decide

/-- V-HALT-1. -/
theorem test_halt :
    see (fun t => (t.pc, t.halted)) (step (code [0x76] { vec with a := 0x00 })) =
      some (0x9801, true) := by decide

/-- V-RLCA-2. -/
theorem test_rlca :
    see (fun t => (t.a, t.fByte, t.pc)) (step (code [0x07] { vec with a := 0x80, flags := flagsOfByte 0x00 })) =
      some (0x01, 0x10, 0x9801) := by decide

/-- V-RLCA-1. -/
theorem test_rlca_zero_flag_clear :
    see (fun t => (t.a, t.fByte, t.pc)) (step (code [0x07] { vec with a := 0x00, flags := flagsOfByte 0xF0 })) =
      some (0x00, 0x00, 0x9801) := by decide

/-- V-RRCA-1. -/
theorem test_rrca :
    see (fun t => (t.a, t.fByte, t.pc)) (step (code [0x0F] { vec with a := 0x01, flags := flagsOfByte 0x10 })) =
      some (0x80, 0x10, 0x9801) := by decide

/-- V-RLA-2. -/
theorem test_rla :
    see (fun t => (t.a, t.fByte, t.pc)) (step (code [0x17] { vec with a := 0x80, flags := flagsOfByte 0x00 })) =
      some (0x00, 0x10, 0x9801) := by decide

/-- V-RRA-1. -/
theorem test_rra :
    see (fun t => (t.a, t.fByte, t.pc)) (step (code [0x1F] { vec with a := 0x00, flags := flagsOfByte 0xF0 })) =
      some (0x80, 0x00, 0x9801) := by decide

/-- V-RLC-2. -/
theorem test_rlc_B :
    see (fun t => (t.b, t.fByte, t.pc)) (step (code [0xCB, 0x00] { vec with b := 0xA5, flags := flagsOfByte 0x00 })) =
      some (0x4B, 0x10, 0x9802) := by decide

/-- V-RRC-2. -/
theorem test_rrc_B :
    see (fun t => (t.b, t.fByte, t.pc)) (step (code [0xCB, 0x08] { vec with b := 0xA5, flags := flagsOfByte 0x00 })) =
      some (0xD2, 0x10, 0x9802) := by decide

/-- V-RL-2. -/
theorem test_rl_B :
    see (fun t => (t.b, t.fByte, t.pc)) (step (code [0xCB, 0x10] { vec with b := 0x80, flags := flagsOfByte 0x00 })) =
      some (0x00, 0x90, 0x9802) := by decide

/-- V-RR-1. -/
theorem test_rr_B :
    see (fun t => (t.b, t.fByte, t.pc)) (step (code [0xCB, 0x18] { vec with b := 0x00, flags := flagsOfByte 0x10 })) =
      some (0x80, 0x00, 0x9802) := by decide

/-- V-SLA-2. -/
theorem test_sla_B :
    see (fun t => (t.b, t.fByte, t.pc)) (step (code [0xCB, 0x20] { vec with b := 0xFF, flags := flagsOfByte 0x10 })) =
      some (0xFE, 0x10, 0x9802) := by decide

/-- V-SRA-1. -/
theorem test_sra_B :
    see (fun t => (t.b, t.fByte, t.pc)) (step (code [0xCB, 0x28] { vec with b := 0x80, flags := flagsOfByte 0x00 })) =
      some (0xC0, 0x00, 0x9802) := by decide

/-- V-SWAP-1. -/
theorem test_swap_B :
    see (fun t => (t.b, t.fByte, t.pc)) (step (code [0xCB, 0x30] { vec with b := 0xA5, flags := flagsOfByte 0x00 })) =
      some (0x5A, 0x00, 0x9802) := by decide

/-- V-SRL-3. -/
theorem test_srl_B :
    see (fun t => (t.b, t.fByte, t.pc)) (step (code [0xCB, 0x38] { vec with b := 0xFF, flags := flagsOfByte 0x10 })) =
      some (0x7F, 0x10, 0x9802) := by decide

/-- V-BIT-2. -/
theorem test_bit_0_B_keeps_carry :
    see (fun t => (t.b, t.fByte, t.pc)) (step (code [0xCB, 0x40] { vec with b := 0xFE, flags := flagsOfByte 0x10 })) =
      some (0xFE, 0xB0, 0x9802) := by decide

/-- V-RES-1. -/
theorem test_res_0_B :
    see (fun t => (t.b, t.fByte, t.pc)) (step (code [0xCB, 0x80] { vec with b := 0xFF, flags := flagsOfByte 0xF0 })) =
      some (0xFE, 0xF0, 0x9802) := by decide

/-- V-SET-1. -/
theorem test_set_0_B :
    see (fun t => (t.b, t.fByte, t.pc)) (step (code [0xCB, 0xC0] { vec with b := 0x00, flags := flagsOfByte 0xF0 })) =
      some (0x01, 0xF0, 0x9802) := by decide

/-- V-BIT-3. -/
theorem test_bit_7_A :
    see (fun t => (t.a, t.fByte)) (step (code [0xCB, 0x7F] { vec with a := 0x7F, flags := flagsOfByte 0xD0 })) =
      some (0x7F, 0xB0) := by decide

/-- V-BIT-4. -/
theorem test_bit_3_L :
    see (fun t => (t.l, t.fByte)) (step (code [0xCB, 0x5D] { vec with l := 0x08, flags := flagsOfByte 0x40 })) =
      some (0x08, 0x20) := by decide

/-- V-BIT-5. -/
theorem test_bit_5_mHL :
    see (fun t => (t.byteAt 0x9900, t.fByte))
      (step (code [0xCB, 0x6E] { vec with h := 0x99, l := 0x00, vram := [(0x1900, 0x20)], flags := flagsOfByte 0x10 })) =
      some (0x20, 0x30) := by decide

/-- V-RES-4. -/
theorem test_res_5_mHL :
    see (fun t => (t.byteAt 0x9900, t.fByte))
      (step (code [0xCB, 0xAE] { vec with h := 0x99, l := 0x00, vram := [(0x1900, 0xFF)], flags := flagsOfByte 0x10 })) =
      some (0xDF, 0x10) := by decide

/-- V-RES-2. -/
theorem test_res_7_A :
    see (fun t => (t.a, t.fByte)) (step (code [0xCB, 0xBF] { vec with a := 0x80 })) =
      some (0x00, 0x00) := by decide

/-- V-SET-3. -/
theorem test_set_4_H :
    see (fun t => (t.h, t.fByte)) (step (code [0xCB, 0xE4] { vec with h := 0xFF, flags := flagsOfByte 0xA0 })) =
      some (0xFF, 0xA0) := by decide

/-! ### Wrap-around, where the host owns the rest of the address space (FLAT) -/

/-- V-PUSH-1. -/
theorem test_push_wraps_SP :
    see (fun t => (t.byteAt 0x0000, t.byteAt 0xFFFF, t.sp))
      (exec .push_BC { State.reset with b := 0xFF, c := 0xFF, sp := 0x0001 }) = some (0xFF, 0xFF, 0xFFFF) := by decide

/-- V-POP-3. -/
theorem test_pop_wraps_SP :
    see (fun t => (t.getPair .bc, t.sp))
      (exec .pop_BC { State.reset with sp := 0xFFFF, hostMem := [(0x0000, 0x12), (0xFFFF, 0x34)] }) =
      some (0x1234, 0x0001) := by decide

/-- V-CALL-1. -/
theorem test_call_wraps_PC :
    see (fun t => (t.pc, t.sp, t.byteAt 0x9EFF, t.byteAt 0x9EFE))
      (step (code [0xCD, 0x00, 0x90] { State.reset with pc := 0xFFFE, sp := 0x9F00 })) =
      some (0x9000, 0x9EFE, 0x00, 0x01) := by decide

/-- V-JP-2. -/
theorem test_jp_operand_address_wraps :
    see (fun t => t.pc) (step (code [0xC3, 0x34, 0x12] { State.reset with pc := 0xFFFF })) = some 0x1234 := by decide

/-- S8. -/
theorem test_call_scenario :
    see (fun t => (t.pc, t.sp, t.byteAt 0xFFFD, t.byteAt 0xFFFC))
      (step (code [0xCD, 0x00, 0x10] { State.reset with pc := 0x0100, sp := 0xFFFE })) =
      some (0x1000, 0xFFFC, 0x01, 0x03) := by decide

/-! ### Halt, unrecognized bytes, faults -/

/-- V-HALT-2: the step after HALT makes no fetch, so it does not fault at an unmapped PC. -/
theorem test_halted_step_is_inert :
    see (fun t => (t.pc, t.halted)) (step { vec with pc := 0xA000, halted := true }) = some (0xA000, true) := by decide

/-- V-UND-1. -/
theorem test_unrecognized_inert : see (fun t => (t.pc, t.a)) (step (code [0xD3] { vec with a := 0x05 })) =
    some (0x9800, 0x05) := by decide

/-- V-UND-2. -/
theorem test_unrecognized_fatal :
    stop (step (code [0xD3] { vec with params := { vec.params with undefPolicy := .fatal } })) =
      some (.undefinedOpcode 0xD3 0x9800) := by decide

/-- R98: ADC A,B is an unrecognized byte under UNSPEC_FAMILIES = refuse. -/
theorem test_refused_family_is_inert :
    see (fun t => (t.pc, t.a))
      (step (code [0x88] { vec with a := 0x01, b := 0x01, params := { vec.params with unspecFamilies := .refuse } })) =
      some (0x9800, 0x01) := by decide

/-- R98: 0x87 and 0x90 stand beside the refused run 0x88 to 0x8F, 0xC0 after the refused run 0xA0 to 0xBF. -/
theorem test_refused_bytes_boundaries :
    [(0x87 : Byte), 0x88, 0x8F, 0x90, 0x97, 0x98, 0x9F, 0xA0, 0xBF, 0xC0, 0xCB, 0xCD].map unspecByte =
      [false, true, true, false, false, true, true, true, true, false, true, false] := by decide

/-- V-FLT-1. -/
theorem test_fault_at_fetch : stop (step { vec with pc := 0x0000 }) = some (.busFault 0x0000 .fetch) := by decide

/-- V-FLT-2. -/
theorem test_fault_at_read :
    stop (step (code [0x7E] { vec with h := 0x40 })) = some (.busFault 0x4000 .read) := by decide

/-- V-FLT-3. -/
theorem test_fault_at_write :
    stop (step (code [0x77] { vec with h := 0xA0 })) = some (.busFault 0xA000 .write) := by decide

/-- V-FLT-4. -/
theorem test_fault_at_first_push :
    stop (step (code [0xC5] { vec with sp := 0x8000 })) = some (.busFault 0x7FFF .write) := by decide

/-- V-FLT-5. -/
theorem test_fault_at_second_push :
    stop (step (code [0xC5] { vec with sp := 0x8001 })) = some (.busFault 0x7FFF .write) := by decide

/-- V-FLT-6. -/
theorem test_fault_at_immediate :
    stop (exec .ld_A_n { vec with pc := 0x9FFF }) = some (.busFault 0xA000 .fetch) := by decide

/-- V-FLT-8. -/
theorem test_not_taken_reads_no_operand :
    see (fun t => t.pc) (exec .jp_Z_nn { vec with pc := 0x9FFE }) = some 0xA001 := by decide

/-- V-FLT-9. -/
theorem test_fault_at_operand_high_byte :
    stop (exec .jp_Z_nn { vec with pc := 0x9FFE, flags := flagsOfByte 0x80 }) = some (.busFault 0xA000 .fetch) := by decide

/-! ### The video device -/

/-- V-TILE-1 (conflict C2). -/
theorem test_tile_low_plane_is_level_1 :
    ((vec.videoWrite 0x0000 0xFF).videoWrite 0x0001 0x00).tileRowAt 0 0 = row 1 1 1 1 1 1 1 1 := by decide

/-- V-TILE-4. -/
theorem test_tile_last_row :
    ((vec.videoWrite 0x17FE 0xA5).videoWrite 0x17FF 0x3C).tileRowAt 383 7 = row 1 0 3 2 2 3 0 1 ∧
    ((vec.videoWrite 0x17FE 0xA5).videoWrite 0x17FF 0x3C).tileRowAt 383 6 = blankRow := by decide

/-- V-TILE-5. -/
theorem test_tile_window_ends :
    (vec.videoWrite 0x1800 0xFF).tiles = [] ∧ (vec.videoWrite 0x1800 0xFF).videoRead 0x1800 = 0xFF := by decide

/-- V-TILE-6. -/
theorem test_tile_odd_byte_first :
    (vec.videoWrite 0x0013 0x80).tileRowAt 1 1 = row 2 0 0 0 0 0 0 0 ∧
    ((vec.videoWrite 0x0013 0x80).videoWrite 0x0012 0xC0).tileRowAt 1 1 = row 3 1 0 0 0 0 0 0 := by decide

/-- V-SWAP-4. -/
theorem test_swap_mHL_redraws_row :
    see (fun t => (t.byteAt 0x8002, t.fByte, t.tileRowAt 0 1))
      (step (code [0xCB, 0x36] (((({ vec with h := 0x80, l := 0x02 }).videoWrite 2 0xF0).videoWrite 3 0xFF).setFlags
        (flagsOfByte 0xF0)))) = some (0x0F, 0x00, row 2 2 2 2 3 3 3 3) := by decide

/-- V-SET-4. -/
theorem test_set_0_mHL_redraws_row :
    see (fun t => (t.byteAt 0x8010, t.tileRowAt 1 0))
      (step (code [0xCB, 0xC6] (({ vec with h := 0x80, l := 0x10 }).videoWrite 0x11 0x01))) =
      some (0x01, row 0 0 0 0 0 0 0 3) := by decide

/-! ### Pairs -/

/-- V-PAIR-3. -/
theorem test_AF_write_drops_low_nibble :
    (vec.setPair .af 0x12FF).a = 0x12 ∧ (vec.setPair .af 0x12FF).getPair .af = 0x12F0 := by decide

/-- V-PAIR-1. -/
theorem test_BC_write : ((vec.setPair .bc 0xABCD).b, (vec.setPair .bc 0xABCD).c) = (0xAB, 0xCD) := by decide

/-! ### The sparse memory: writing what an unlisted byte reads as removes the entry -/

theorem test_write_of_fill_byte_removes_entry :
    (((State.reset.storeByte 0x0005 0x12).storeByte 0x0003 0x34).storeByte 0x0005 0x00).hostMem = [(0x0003, 0x34)] := by
  decide

/-! ### The host's ports -/

/-- R231: an offset above 0x1FFF is refused. -/
theorem test_video_port_bounds :
    hostAct (.videoWrite 0x1FFF 0x01) vec = .next { vec with vram := [(0x1FFF, 0x01)] } ∧
    hostAct (.videoWrite 0x2000 0x01) vec = .refused (.videoOffset 0x2000) := ⟨rfl, rfl⟩

/-- R263: Execute makes no fetch, so it runs at an unmapped PC. -/
theorem test_execute_needs_no_fetch :
    see (fun t => (t.b, t.pc)) (hostAct (.execute .inc_B) { vec with pc := 0x0000 }) = some (0x01, 0x0001) := by decide

/-- U15, R102: Execute of the byte 0xCB by itself, or of an unrecognized byte, is inert under both policies. -/
theorem test_execute_of_no_instruction_is_inert :
    see (fun t => (t.e, t.pc)) (hostAct (.execute .prefix_CB) (code [0xCB, 0xCB] vec)) = some (0x00, 0x9800) ∧
    see (fun t => t.pc)
      (hostAct (.execute .unrecognized_D3) { vec with params := { vec.params with undefPolicy := .fatal } }) =
      some 0x9800 := by decide

/-- R102: 0xCB 0xCB is SET 1,E, in one step. -/
theorem test_two_prefix_bytes : see (fun t => (t.e, t.pc)) (step (code [0xCB, 0xCB] vec)) = some (0x02, 0x9802) := by decide

/-- D16: the host writes the halted flag under HOST_RESUME = present alone; a write of F drops bits 3 to 0. -/
theorem test_host_writes_halted_and_F :
    see (fun t => t.halted)
      (hostAct (.writeHalted true) { vec with params := { vec.params with hostResume := .present } }) = some true ∧
    hostAct (.writeHalted true) vec = .refused .haltedNotWritable ∧
    see (fun t => t.fByte) (hostAct (.writeF 0xAF) vec) = some 0xA0 := ⟨by decide, rfl, by decide⟩

/-- R6: a launch installs what LAUNCH_STATE says, the halted flag among it. -/
theorem test_launch_installs_state :
    (State.launch defaultParams [] { launchDefault with a := 0x12, pc := 0x0100, halted := true }).a = 0x12 ∧
    (State.launch defaultParams [] { launchDefault with a := 0x12, pc := 0x0100, halted := true }).pc = 0x0100 ∧
    (State.launch defaultParams [] { launchDefault with a := 0x12, pc := 0x0100, halted := true }).halted = true := by
  decide

/-- U3: what a BusFault leaves beside the latch is the free value; V-UND-2: a fatal UndefinedOpcode leaves the state. -/
theorem test_after_a_fault :
    (drive { vec with a := 0x77 } { vec with pc := 0x0000 }).faulted = true ∧
    (drive { vec with a := 0x77 } { vec with pc := 0x0000 }).a = 0x77 ∧
    (drive { vec with a := 0x77 }
      (code [0xD3] { vec with a := 0x05, params := { vec.params with undefPolicy := .fatal } })).a = 0x05 := by decide

/-- R268: the three quiescent conditions, and the jump to itself (V-JP-1), which is none of them. -/
theorem test_quiescent :
    ({ vec with halted := true }).quiescent = true ∧ ({ vec with faulted := true }).quiescent = true ∧
    (code [0xD3] vec).quiescent = true ∧ (code [0xC3, 0x00, 0x98] vec).quiescent = false := by decide

/-- R267: a run with a host write between two steps: INC B, then a NOP overwritten by HALT. -/
theorem test_host_writes_between_steps :
    (hostRun [(.step, vec), (.videoWrite 0x1801 0x76, vec), (.step, vec)] (code [0x04, 0x00] vec)).halted = true := by
  decide

/-! ### The table's numbering -/

/-- A row of the secondary space numbers byte 0 as the more significant; the others have one byte. -/
theorem test_table_words :
    decodeTableWord 16 0xCB9A = some .res_3_D ∧ decodeTableWord 8 0x36 = some .ld_mHL_n ∧
    decodeTableWord 8 0xD3 = some .unrecognized_D3 := by decide

/-- The first step after reset runs the instruction placed at PC. -/
theorem test_placed_word_runs_first :
    see (fun t => (t.b, t.pc)) (step (State.reset.withFetchWord 16 0xCBC0)) = some (0x01, 0x0002) := by decide

/-! ### Witnesses: states and operands that meet the hypotheses of each statement, clause by clause

`vec` has HL = 0x0000, which is unmapped; the other states move one register to an edge of the window. -/

/-- HL = 0x9900, mapped. -/
def vecHl : State := { vec with h := 0x99 }

/-- The byte after PC is unmapped. -/
def edgePc1 : State := { vec with pc := 0x9FFF }

/-- The byte after PC is mapped, the next one is not. -/
def edgePc2 : State := { vec with pc := 0x9FFE }

/-- Both stack bytes of a push are unmapped. -/
def lowSp : State := { vec with sp := 0x8000 }

/-- The second stack byte of a push is unmapped. -/
def lowSp1 : State := { vec with sp := 0x8001 }

/-- The byte at SP is unmapped. -/
def highSp : State := { vec with sp := 0xA000 }

/-- The byte at SP is mapped, the next one is not. -/
def highSp1 : State := { vec with sp := 0x9FFF }

/-- A push and a fetch that both reach an edge: the operand of a CALL at PC = 0x9FFF is unmapped. -/
theorem edges :
    vecHl.mapped vecHl.hl = true ∧ vec.mapped vec.hl = false ∧
    vec.mapped (vec.pc + 1) = true ∧ edgePc1.mapped (edgePc1.pc + 1) = false ∧
    vec.mapped (vec.pc + 2) = true ∧ edgePc2.mapped (edgePc2.pc + 1) = true ∧ edgePc2.mapped (edgePc2.pc + 2) = false ∧
    vec.mapped (vec.sp - 1) = true ∧ vec.mapped (vec.sp - 2) = true ∧ lowSp.mapped (lowSp.sp - 1) = false ∧
    lowSp1.mapped (lowSp1.sp - 1) = true ∧ lowSp1.mapped (lowSp1.sp - 2) = false ∧
    vec.mapped vec.sp = true ∧ vec.mapped (vec.sp + 1) = true ∧ highSp.mapped highSp.sp = false ∧
    highSp1.mapped highSp1.sp = true ∧ highSp1.mapped (highSp1.sp + 1) = false := by decide

theorem witness_DecodeReadsBackEveryEncoding :
    Instr.wellFormed .nop = true ∧ Instr.wellFormed .set_7_A = true ∧ Instr.wellFormed .jp_nn = true := by decide

theorem witness_DecodedBytesAreTheEncoding :
    decode [0xCB, 0x9A, 0x12] = .ok (.res_3_D, [0x12]) ∧ decode [0xC3, 0x34, 0x12] = .ok (.jp_nn, [0x34, 0x12]) :=
  ⟨rfl, rfl⟩

theorem witness_StepRunsDecodedInstruction :
    let s := code [0x36, 0xAB] vec
    let t := code [0xCB, 0xC6] vec
    (s.faulted = false ∧ s.halted = false ∧ s.mapped s.pc = true ∧ s.refusesByte (s.byteAt s.pc) = false ∧
      s.byteAt s.pc ≠ 0xCB ∧ decode [s.byteAt s.pc] = .ok (.ld_mHL_n, [])) ∧
    (t.faulted = false ∧ t.halted = false ∧ t.mapped t.pc = true ∧ t.refusesByte (t.byteAt t.pc) = false ∧
      t.byteAt t.pc = 0xCB ∧ t.mapped (t.pc + 1) = true ∧
      decode [t.byteAt t.pc, t.byteAt (t.pc + 1)] = .ok (.set_0_mHL, [])) :=
  ⟨⟨rfl, rfl, rfl, rfl, by decide, rfl⟩, ⟨rfl, rfl, rfl, rfl, rfl, rfl, rfl⟩⟩

theorem witness_FetchFaultsInOrder :
    ({ vec with faulted := true }).faulted = true ∧
    (({ vec with halted := true }).faulted = false ∧ ({ vec with halted := true }).halted = true) ∧
    (({ vec with pc := 0x7FFF }).faulted = false ∧ ({ vec with pc := 0x7FFF }).halted = false ∧
      ({ vec with pc := 0x7FFF }).mapped 0x7FFF = false) ∧
    (let s := edgePc1.storeByte 0x9FFF 0xCB
     s.faulted = false ∧ s.halted = false ∧ s.mapped s.pc = true ∧ s.byteAt s.pc = 0xCB ∧
      s.params.unspecFamilies = .sm83 ∧ s.mapped (s.pc + 1) = false) := by decide

theorem witness_HaltedFlagLifecycle :
    (({ vec with halted := true }).faulted = false ∧ ({ vec with halted := true }).halted = true) ∧
    exec .halt vec = .next { vec with halted := true, pc := 0x9801 } ∧
    exec .nop { vec with halted := true } = .next { vec with halted := true, pc := 0x9801 } ∧
    vec.params.hostResume = .absent ∧
    ({ vec with params := { vec.params with hostResume := .present } }).params.hostResume = .present :=
  ⟨⟨rfl, rfl⟩, rfl, rfl, rfl, rfl⟩

theorem witness_FaultedLatchStopsTheMachine :
    step { vec with pc := 0x0000 } = .fault (.busFault 0x0000 .fetch) ∧ ({ vec with faulted := true }).faulted = true ∧
    step vec = .next { vec with pc := 0x9801 } ∧ HostAction.resume ≠ .reset ∧
    step (code [0xD3] { vec with params := { vec.params with undefPolicy := .fatal } }) =
      .fault (.undefinedOpcode 0xD3 0x9800) := ⟨rfl, rfl, rfl, by decide, rfl⟩

theorem witness_UnrecognizedByteIsInertOrFatal :
    let s := code [0xD3] vec
    (decodeMain 0xD3).isUnrecognized = true ∧ s.params.undefPolicy = .inert ∧
    ({ s with params := { s.params with undefPolicy := .fatal } }).params.undefPolicy = .fatal ∧
    s.faulted = false ∧ s.halted = false ∧ s.mapped s.pc = true ∧ s.byteAt s.pc = 0xD3 := by decide

theorem witness_RefusedFamiliesActAsUnrecognized :
    let s := { vec with params := { vec.params with unspecFamilies := .refuse } }
    s.faulted = false ∧ s.halted = false ∧ s.mapped s.pc = true ∧ s.params.unspecFamilies = .refuse ∧
    s.params.undefPolicy = .inert ∧
    (code [0xFE] s).byteAt s.pc = 0xFE ∧ (code [0x88] s).byteAt s.pc = 0x88 ∧ (code [0x8F] s).byteAt s.pc = 0x8F ∧
    (code [0x98] s).byteAt s.pc = 0x98 ∧ (code [0x9F] s).byteAt s.pc = 0x9F ∧ (code [0xA0] s).byteAt s.pc = 0xA0 ∧
    (code [0xBF] s).byteAt s.pc = 0xBF ∧ (code [0xCB] s).byteAt s.pc = 0xCB := by decide

/-- The same under UNDEF_POLICY = fatal. -/
theorem witness_RefusedFamiliesActAsUnrecognized_fatal :
    let s := { vec with params := { vec.params with unspecFamilies := .refuse, undefPolicy := .fatal } }
    s.params.unspecFamilies = .refuse ∧ s.params.undefPolicy = .fatal ∧ (code [0xFE] s).byteAt s.pc = 0xFE ∧
    stop (step (code [0xFE] s)) = some (.undefinedOpcode 0xFE 0x9800) := by decide

theorem witness_PrefixRowRunsSecondarySpace :
    vecHl.mapped (vecHl.pc + 1) = true ∧ vecHl.mapped vecHl.hl = true ∧ edgePc1.mapped (edgePc1.pc + 1) = false := by
  decide

theorem witness_PairWriteThenRead : PairView.bc ≠ .af ∧ PairView.de ≠ .af ∧ PairView.hl ≠ .af := by decide

theorem witness_FlagsUntouchedByOthers :
    Instr.ld_B_C ≠ .prefix_CB ∧ exec .ld_B_C vec = .next { vec with pc := 0x9801 } ∧
    formWritesFlags (Instr.form .ld_B_C) = false ∧ Instr.form .inc_B = .incReg .b ∧ Instr.form .dec_B = .decReg .b ∧
    Instr.form .inc_mHL = .incMem ∧ Instr.form .dec_mHL = .decMem ∧ Instr.form .bit_5_mHL = .bitMem .b5 ∧
    Instr.form .bit_0_B = .bitReg .b0 .b ∧ Instr.form .add_HL_SP = .addHl .sp := by
  refine ⟨by decide, rfl, by decide, rfl, rfl, rfl, rfl, rfl, rfl, rfl⟩

theorem vec_inv : vec.Inv := by
  refine ⟨⟨rfl, rfl, rfl, ?_, ?_, ?_⟩, fun t _ r _ => ?_⟩
  · exact fun e he => absurd he List.not_mem_nil
  · exact fun e he => absurd he List.not_mem_nil
  · exact fun e he => absurd he List.not_mem_nil
  · show blankRow = tileRow fillByte fillByte
    decide

/-- A state with a drawn tile row keeps the invariant and takes a step. -/
theorem witness_StepKeepsInvariant :
    (vec.storeByte 0x8000 0xFF).Inv ∧
    step (vec.storeByte 0x8000 0xFF) = .next ((vec.storeByte 0x8000 0xFF).advance 1) :=
  ⟨State.Inv_storeByte vec 0x8000 0xFF rfl vec_inv, rfl⟩

/-- An image of two bytes in the region FLAT, its last address the end of the address space. -/
theorem witness_ResetMeetsInvariant :
    memWf [(0x0100, 0xCD), (0xFFFF, 0x01)] = true ∧
    ∀ e ∈ ([(0x0100, 0xCD), (0xFFFF, 0x01)] : List Host.Cell),
      e.1 < 0x10000 ∧ hostOwns defaultParams (BitVec.ofNat 16 e.1) = true := by decide

/-- The second run meets a BusFault: the host moves PC out of the window and steps. -/
theorem witness_HostActionsKeepInvariant :
    (vec.Inv ∧ hostAct (.videoWrite 0x17FF 0xFF) vec = .next (vec.videoWrite 0x17FF 0xFF)) ∧
    (∀ e ∈ [(HostAction.writePc 0x0000, vec), (HostAction.step, vec), (HostAction.reset, vec)],
      e.2.Inv ∧ e.2.params = vec.params) := by
  refine ⟨⟨vec_inv, rfl⟩, fun e he => ?_⟩
  simp only [List.mem_cons, List.not_mem_nil, or_false] at he
  rcases he with rfl | rfl | rfl <;> exact ⟨vec_inv, rfl⟩

theorem witness_ParametersAndLatchNeverChange :
    exec .nop vec = .next { vec with pc := 0x9801 } ∧ step vec = .next { vec with pc := 0x9801 } := ⟨rfl, rfl⟩

theorem witness_BusOperations :
    (0x8000 ≤ (0x8000 : Word).toNat ∧ (0x9FFF : Word).toNat ≤ 0x9FFF) ∧
    ((0x7FFF : Word).toNat < 0x8000 ∧
      ∃ r ∈ State.reset.params.hostRegion, r.lo.toNat ≤ (0x7FFF : Word).toNat ∧ (0x7FFF : Word).toNat ≤ r.hi.toNat) ∧
    (0x9FFF < (0xA000 : Word).toNat ∧
      ∃ r ∈ State.reset.params.hostRegion, r.lo.toNat ≤ (0xA000 : Word).toNat ∧ (0xA000 : Word).toNat ≤ r.hi.toNat) ∧
    (∀ r ∈ vec.params.hostRegion, (0x7FFF : Word).toNat < r.lo.toNat ∨ r.hi.toNat < (0x7FFF : Word).toNat) ∧
    (∀ r ∈ vec.params.hostRegion, (0xA000 : Word).toNat < r.lo.toNat ∨ r.hi.toNat < (0xA000 : Word).toNat) := by decide

/-- The edges of the clauses: 0x17FF is the last offset that redraws, 0x1FFF the last that exists. -/
theorem witness_VideoWriteRecomputesOneRow :
    0x17FF ≤ 0x1FFF ∧ (vec.videoWrite 0x17FF 0x01).tileRowAt 383 7 = row 0 0 0 0 0 0 0 2 ∧
    0x1800 ≤ 0x1FFF ∧ (vec.videoWrite 0x1800 0x01).tiles = [] ∧
    (vec.videoWrite 0x1FFF 0x01).videoRead 0x1FFF = 0x01 := by decide

theorem witness_AddToAccumulator :
    vecHl.mapped vecHl.hl = true ∧ vec.mapped vec.hl = false ∧ vec.mapped (vec.pc + 1) = true ∧
    edgePc1.mapped (edgePc1.pc + 1) = false := by decide

theorem witness_AddWithCarry :
    vecHl.mapped vecHl.hl = true ∧ vec.mapped vec.hl = false ∧ vec.mapped (vec.pc + 1) = true ∧
    edgePc1.mapped (edgePc1.pc + 1) = false := by decide

theorem witness_SubtractFromAccumulator :
    vecHl.mapped vecHl.hl = true ∧ vec.mapped vec.hl = false ∧ vec.mapped (vec.pc + 1) = true ∧
    edgePc1.mapped (edgePc1.pc + 1) = false := by decide

theorem witness_SubtractWithCarry :
    vecHl.mapped vecHl.hl = true ∧ vec.mapped vec.hl = false ∧ vec.mapped (vec.pc + 1) = true ∧
    edgePc1.mapped (edgePc1.pc + 1) = false := by decide

theorem witness_CompareKeepsAccumulator :
    vecHl.mapped vecHl.hl = true ∧ vec.mapped vec.hl = false ∧ vec.mapped (vec.pc + 1) = true ∧
    edgePc1.mapped (edgePc1.pc + 1) = false := by decide

theorem witness_BitwiseOnAccumulator :
    ((AluOp.and, true, and) = (AluOp.and, true, and) ∧ (AluOp.xor, false, xor) = (AluOp.xor, false, xor) ∧
      (AluOp.or, false, or) = (AluOp.or, false, or)) ∧
    vecHl.mapped vecHl.hl = true ∧ vec.mapped vec.hl = false ∧ vec.mapped (vec.pc + 1) = true ∧
    edgePc1.mapped (edgePc1.pc + 1) = false := by
  refine ⟨⟨rfl, rfl, rfl⟩, ?_⟩
  decide

theorem witness_AddPairToHl :
    (PairSel.bc, PairView.bc) ∈ [(PairSel.bc, PairView.bc), (.de, .de), (.hl, .hl)] ∧
    (PairSel.hl, PairView.hl) ∈ [(PairSel.bc, PairView.bc), (.de, .de), (.hl, .hl)] := by decide

theorem witness_IncrementDecrementPair :
    (PairSel.de, PairView.de) ∈ [(PairSel.bc, PairView.bc), (.de, .de), (.hl, .hl)] := by decide

theorem witness_IncrementDecrementMemory : vecHl.mapped vecHl.hl = true ∧ vec.mapped vec.hl = false := by decide

theorem witness_StackOperations :
    (vec.mapped (vec.sp - 1) = true ∧ vec.mapped (vec.sp - 2) = true) ∧ lowSp.mapped (lowSp.sp - 1) = false ∧
    (lowSp1.mapped (lowSp1.sp - 1) = true ∧ lowSp1.mapped (lowSp1.sp - 2) = false) ∧
    (vec.mapped vec.sp = true ∧ vec.mapped (vec.sp + 1) = true) ∧ highSp.mapped highSp.sp = false ∧
    (highSp1.mapped highSp1.sp = true ∧ highSp1.mapped (highSp1.sp + 1) = false) := by decide

theorem witness_PushWritesHighThenLow :
    (vec.mapped (vec.sp - 1) = true ∧ vec.mapped (vec.sp - 2) = true) ∧ lowSp.mapped (lowSp.sp - 1) = false ∧
    (lowSp1.mapped (lowSp1.sp - 1) = true ∧ lowSp1.mapped (lowSp1.sp - 2) = false) := by decide

theorem witness_PopReadsLowThenHigh :
    (vec.mapped vec.sp = true ∧ vec.mapped (vec.sp + 1) = true) ∧ highSp.mapped highSp.sp = false ∧
    (highSp1.mapped highSp1.sp = true ∧ highSp1.mapped (highSp1.sp + 1) = false) := by decide

theorem witness_PushThenPopRoundTrip : exec .push_AF vec = .next ((vec.setSp 0x9EFE).advance 1) := rfl

/-- The state has Z clear and C clear: NZ and NC hold, Z and C do not. -/
theorem witness_JumpToOperand :
    ((Instr.jp_NZ_nn, true) ∈ [(Instr.jp_nn, true), (.jp_NZ_nn, !vec.flags.z), (.jp_Z_nn, vec.flags.z),
        (.jp_NC_nn, !vec.flags.c), (.jp_C_nn, vec.flags.c)] ∧
      (Instr.jp_C_nn, false) ∈ [(Instr.jp_nn, true), (.jp_NZ_nn, !vec.flags.z), (.jp_Z_nn, vec.flags.z),
        (.jp_NC_nn, !vec.flags.c), (.jp_C_nn, vec.flags.c)]) ∧
    (vec.mapped (vec.pc + 1) = true ∧ vec.mapped (vec.pc + 2) = true) ∧ edgePc1.mapped (edgePc1.pc + 1) = false ∧
    (edgePc2.mapped (edgePc2.pc + 1) = true ∧ edgePc2.mapped (edgePc2.pc + 2) = false) := by decide

theorem witness_CallPushesThenReadsTarget :
    ((Instr.call_NC_nn, true) ∈ [(Instr.call_nn, true), (.call_NZ_nn, !vec.flags.z), (.call_Z_nn, vec.flags.z),
        (.call_NC_nn, !vec.flags.c), (.call_C_nn, vec.flags.c)] ∧
      (Instr.call_Z_nn, false) ∈ [(Instr.call_nn, true), (.call_NZ_nn, !vec.flags.z), (.call_Z_nn, vec.flags.z),
        (.call_NC_nn, !vec.flags.c), (.call_C_nn, vec.flags.c)]) ∧
    (vec.mapped (vec.sp - 1) = true ∧ vec.mapped (vec.sp - 2) = true ∧ vec.mapped (vec.pc + 1) = true ∧
      vec.mapped (vec.pc + 2) = true) ∧
    lowSp.mapped (lowSp.sp - 1) = false ∧
    (lowSp1.mapped (lowSp1.sp - 1) = true ∧ lowSp1.mapped (lowSp1.sp - 2) = false) ∧
    (edgePc1.mapped (edgePc1.sp - 1) = true ∧ edgePc1.mapped (edgePc1.sp - 2) = true ∧
      edgePc1.mapped (edgePc1.pc + 1) = false) ∧
    (edgePc2.mapped (edgePc2.sp - 1) = true ∧ edgePc2.mapped (edgePc2.sp - 2) = true ∧
      edgePc2.mapped (edgePc2.pc + 1) = true ∧ edgePc2.mapped (edgePc2.pc + 2) = false) := by decide

theorem witness_ReturnToPoppedWord :
    ((Instr.ret, (0xC9 : Byte), true) ∈ [(Instr.ret, (0xC9 : Byte), true), (.ret_NZ, 0xC0, !vec.flags.z),
        (.ret_Z, 0xC8, vec.flags.z), (.ret_NC, 0xD0, !vec.flags.c), (.ret_C, 0xD8, vec.flags.c)] ∧
      (Instr.ret_C, (0xD8 : Byte), false) ∈ [(Instr.ret, (0xC9 : Byte), true), (.ret_NZ, 0xC0, !vec.flags.z),
        (.ret_Z, 0xC8, vec.flags.z), (.ret_NC, 0xD0, !vec.flags.c), (.ret_C, 0xD8, vec.flags.c)]) ∧
    (vec.mapped vec.sp = true ∧ vec.mapped (vec.sp + 1) = true) ∧ highSp.mapped highSp.sp = false ∧
    (highSp1.mapped highSp1.sp = true ∧ highSp1.mapped (highSp1.sp + 1) = false) := by decide

theorem witness_CallThenReturn :
    see (fun t => (t.pc, t.sp)) (exec .call_nn (code [0xCD, 0x10, 0x98] vec)) = some (0x9810, 0x9EFE) := by decide

theorem witness_LoadIntoRegister :
    vec.mapped (vec.pc + 1) = true ∧ edgePc1.mapped (edgePc1.pc + 1) = false ∧ vecHl.mapped vecHl.hl = true ∧
    vec.mapped vec.hl = false := by decide

theorem witness_StoreToMemoryAtHl :
    (vecHl.mapped (vecHl.pc + 1) = true ∧ vecHl.mapped vecHl.hl = true) ∧ edgePc1.mapped (edgePc1.pc + 1) = false ∧
    (vec.mapped (vec.pc + 1) = true ∧ vec.mapped vec.hl = false) := by decide

theorem witness_NopAndHalt : vec.faulted = false ∧ exec .halt vec = .next { vec with halted := true, pc := 0x9801 } :=
  ⟨rfl, rfl⟩

theorem witness_SecondaryShifts : vecHl.mapped vecHl.hl = true ∧ vec.mapped vec.hl = false := by decide

theorem witness_BitTest : vecHl.mapped vecHl.hl = true ∧ vec.mapped vec.hl = false := by decide

theorem witness_BitResetAndSet : vecHl.mapped vecHl.hl = true ∧ vec.mapped vec.hl = false := by decide

theorem witness_NonStoringInstructionsKeepMemory :
    formStoresNothing (Instr.form .pop_AF) = true ∧ (see (fun t => t.sp) (exec .pop_AF vec)) = some 0x9F02 := by decide

theorem witness_StoreAtHlFrame :
    formStoresAtHl (Instr.form .inc_mHL) = true ∧ (see (fun t => t.byteAt 0x9900) (exec .inc_mHL vecHl)) = some 0x01 := by
  decide

theorem witness_PushFrame :
    formPushes (Instr.form .call_Z_nn) = true ∧ (see (fun t => t.pc) (exec .call_Z_nn vec)) = some 0x9803 ∧
    formPushes (Instr.form .push_BC) = true ∧ (see (fun t => t.sp) (exec .push_BC vec)) = some 0x9EFE := by decide

theorem witness_RegisterFrame :
    Instr.add_HL_BC ≠ .prefix_CB ∧ exec .add_HL_BC vec = .next { vec with pc := 0x9801 } ∧
    Reg8.a ∉ formDests (Instr.form .add_HL_BC) ∧ formMovesSp (Instr.form .add_HL_BC) = false :=
  ⟨by decide, rfl, by decide, by decide⟩

/-- Clause by clause: no transfer, an unrecognized byte, not taken, taken, popped, halted. -/
theorem witness_ProgramCounterAdvance :
    (Instr.ld_mHL_n ≠ .prefix_CB ∧ formTransfers (Instr.form .ld_mHL_n) = false ∧ Instr.length .ld_mHL_n = some 2 ∧
      see (fun t => t.pc) (exec .ld_mHL_n vecHl) = some 0x9802) ∧
    (Instr.isUnrecognized .unrecognized_D3 = true ∧ see (fun t => t.pc) (exec .unrecognized_D3 vec) = some 0x9800) ∧
    (condHolds .z vec.flags = false ∧ see (fun t => t.pc) (exec (Form.retCc .z).instr vec) = some 0x9801) ∧
    (condHolds .nz vec.flags = true ∧ see (fun t => t.pc) (exec (Form.jpCc .nz).instr vec) = some 0x0000) ∧
    (see (fun t => t.pc) (exec .ret vec) = some 0x0000) ∧
    (see (fun t => t.pc) (step { vec with halted := true }) = some 0x9800) := by decide

theorem witness_OnlyListedConditionsStop :
    stop (exec .ld_B_mHL vec) = some (.busFault 0x0000 .read) ∧
    stop (exec .unrecognized_D3 { vec with params := { vec.params with undefPolicy := .fatal } }) =
      some (.undefinedOpcode 0xD3 0x9800) := by decide

/-- Under HOST_REGION = FLAT every address is mapped: the reset machine's. -/
theorem witness_EveryInstructionCompletesWhereMapped :
    (∀ x, State.reset.mapped x = true) ∧ State.reset.params.undefPolicy = .inert := by
  refine ⟨fun x => ?_, rfl⟩
  have h := x.isLt
  rw [State.mapped, Bool.or_eq_true]
  by_cases hv : inVideo x = true
  · exact Or.inl hv
  · refine Or.inr ((hostOwns_eq_true _ x).mpr ⟨(inVideo_eq_false x).mp (by simpa using hv), ?_⟩)
    rcases (inVideo_eq_false x).mp (by simpa using hv) with h1 | h1
    · exact ⟨⟨0x0000, 0x7FFF⟩, List.mem_cons_self, Nat.zero_le _, Nat.le_of_lt_succ h1⟩
    · exact ⟨⟨0xA000, 0xFFFF⟩, List.mem_cons_of_mem _ List.mem_cons_self, h1, Nat.le_of_lt_succ h⟩

theorem witness_HostVideoPort :
    0x1FFF ≤ 0x1FFF ∧ (0x9FFF : Word).toNat = 0x8000 + 0x1FFF ∧ 0x1FFF < 0x2000 ∧ vec.tilesConsistent :=
  ⟨Nat.le_refl _, rfl, Nat.lt_succ_self _, vec_inv.2⟩

theorem witness_ExecuteRunsWithoutFetch :
    ({ vec with faulted := true }).faulted = true ∧ ({ vec with halted := true }).halted = true ∧
    vec.faulted = false ∧ vec.halted = false ∧ vec.params.unspecFamilies = .sm83 ∧ Instr.wellFormed .inc_B = true ∧
    Instr.wellFormed .prefix_CB = false ∧ Instr.wellFormed .unrecognized_FF = false ∧
    ({ vec with params := { vec.params with unspecFamilies := .refuse } }).params.unspecFamilies = .refuse ∧
    encode .and_B = [0xA0] ∧ unspecByte 0xA0 = true ∧ encode .inc_B = [0x04] ∧ unspecByte 0x04 = false := by decide

end Sys2Proof.Tests
end

section
/-! PROOFS. What no instruction and no step changes: the parameters of spec/00_scope.md R6 and the faulted latch of
spec/10_state.md R38. -/

namespace Sys2Proof.Machine

/-- Every next state of exec is the one a form leaves or, at an unrecognized byte, the state before. -/
theorem exec_params_faulted {i : Instr} {s t : State} (h : exec i s = .next t) :
    t.params = s.params ∧ t.faulted = s.faulted := by
  rcases exec_next h with ⟨f, -, rfl, -, -⟩ | ⟨-, rfl⟩
  · obtain ⟨hparams, hfaulted, -⟩ := formPost_fixed f s
    exact ⟨hparams, hfaulted⟩
  · exact ⟨rfl, rfl⟩

/-- A step is inert or runs one instruction. -/
theorem step_params_faulted {s t : State} (h : step s = .next t) :
    t.params = s.params ∧ t.faulted = s.faulted := by
  obtain ⟨-, rfl | ⟨-, i, hexec⟩⟩ := step_next h
  · exact ⟨rfl, rfl⟩
  · exact exec_params_faulted hexec

/-- Settles O21, by what exec and step can do when they answer a next state. -/
theorem parametersAndLatchNeverChange : Obligations.ParametersAndLatchNeverChange :=
  ⟨fun _ _ _ => exec_params_faulted, fun _ _ => step_params_faulted⟩

end Sys2Proof.Machine
end

section
/-! PROOFS. Lemmas for the statements on the state (spec/10_state.md R20 to R37): which registers and flags an operation
keeps, where the state left by a form has its PC, and that the halted flag decides nothing a form does. -/

namespace Sys2Proof.Machine

/-! ### What a write leaves alone -/

theorem State.getReg_setReg_of_ne (s : State) {r q : Reg8} (h : q ≠ r) (v : Byte) :
    (s.setReg r v).getReg q = s.getReg q := by
  rw [State.getReg_setReg, if_neg h]

theorem State.getReg_setPair_of_notMem (s : State) {p : PairView} {r : Reg8} (h : r ∉ pairRegs p) (v : Word) :
    (s.setPair p v).getReg r = s.getReg r := by
  revert h
  cases p <;> cases r <;> simp [pairRegs, State.setPair, State.getReg]

theorem State.getReg_setSel_of_notMem (s : State) {p : PairSel} {r : Reg8} (h : r ∉ selRegs p) (v : Word) :
    (s.setSel p v).getReg r = s.getReg r := by
  cases p with
  | bc => exact s.getReg_setPair_of_notMem (p := .bc) h v
  | de => exact s.getReg_setPair_of_notMem (p := .de) h v
  | hl => exact s.getReg_setPair_of_notMem (p := .hl) h v
  | sp => exact s.getReg_setSp v r

theorem State.getReg_aluCommit_of_ne (s : State) (o : AluOp) (v : Byte) {r : Reg8} (h : r ≠ .a) :
    (s.aluCommit o v).getReg r = s.getReg r := by
  rw [State.aluCommit, State.getReg_setFlags, State.getReg_setReg_of_ne _ h]

@[simp] theorem State.getReg_pushed (s : State) (v : Word) (r : Reg8) : (s.pushed v).getReg r = s.getReg r := by
  simp [State.pushed]

@[simp] theorem State.pushed_flags (s : State) (v : Word) : (s.pushed v).flags = s.flags := by
  simp [State.pushed]

@[simp] theorem State.pushed_pc (s : State) (v : Word) : (s.pushed v).pc = s.pc := by
  simp [State.pushed]

@[simp] theorem State.getReg_called (s : State) (r : Reg8) : s.called.getReg r = s.getReg r := by
  simp [State.called]

@[simp] theorem State.called_flags (s : State) : s.called.flags = s.flags := by
  simp [State.called]

@[simp] theorem State.getReg_returned (s : State) (r : Reg8) : s.returned.getReg r = s.getReg r := by
  simp [State.returned]

@[simp] theorem State.returned_flags (s : State) : s.returned.flags = s.flags := by
  simp [State.returned]

/-- A pair write reaches the flags through the low byte of AF alone (R25). -/
theorem State.setPair_flags_of_ne (s : State) {p : PairView} (h : p ≠ .af) (v : Word) :
    (s.setPair p v).flags = s.flags := by
  cases p with
  | af => exact absurd rfl h
  | bc | de | hl => rfl

/-! ### What the state left by a form keeps -/

/-- A register that is no destination of the form is kept. -/
theorem formPost_getReg_of_notMem {f : Form} {r : Reg8} (h : r ∉ formDests f) (s : State) :
    (formPost f s).getReg r = s.getReg r := by
  cases f with
  | pop p => simp [formPost, State.getReg_setPair_of_notMem _ h]
  | addHl p => simp [formPost, State.getReg_setPair_of_notMem (p := .hl) _ h]
  | inc16 p | dec16 p => simp [formPost, State.getReg_setSel_of_notMem _ h]
  | jpCc cc | callCc cc | retCc cc => simp only [formPost]; split <;> simp
  | halt => rw [formPost, State.getReg_advance]; cases r <;> rfl
  | _ =>
    simp only [formDests, List.mem_singleton] at h
    simp [formPost, State.getReg_setReg_of_ne, State.getReg_aluCommit_of_ne, h]

/-- SP is kept unless the form works the stack or names SP (R31). -/
theorem formPost_sp_of_not_movesSp {f : Form} (h : formMovesSp f = false) (s : State) : (formPost f s).sp = s.sp := by
  cases f with
  | push | pop | call | callCc | ret | retCc => exact nomatch h
  | inc16 p | dec16 p =>
    cases p with
    | sp => exact nomatch h
    | bc | de | hl => rfl
  | jpCc cc => simp only [formPost]; split <;> rfl
  | _ => simp [formPost]

/-- A form that writes no flag keeps all four (R34). -/
theorem formPost_flags_of_not_writesFlags {f : Form} (h : formWritesFlags f = false) (s : State) :
    (formPost f s).flags = s.flags := by
  cases f with
  | rotA | aluReg | aluMem | aluImm | addHl | incReg | incMem | decReg | decMem | shiftReg | shiftMem | bitReg
  | bitMem => exact nomatch h
  | pop p =>
    have hp : p ≠ .af := by rintro rfl; exact nomatch h
    simp [formPost, State.setPair_flags_of_ne _ hp]
  | jpCc cc | callCc cc | retCc cc => simp only [formPost]; split <;> simp
  | _ => simp [formPost]

/-- INC, DEC and BIT keep C (R143 to R146, R218). -/
theorem formPost_carry_of_incDecBit {f : Form}
    (h : (∃ r, f = .incReg r ∨ f = .decReg r) ∨ f = .incMem ∨ f = .decMem ∨ ∃ b, f = .bitMem b ∨ ∃ r, f = .bitReg b r)
    (s : State) : (formPost f s).flags.c = s.flags.c := by
  rcases h with ⟨r, rfl | rfl⟩ | rfl | rfl | ⟨b, rfl | ⟨r, rfl⟩⟩ <;> rfl

/-- Where the form is no control transfer, PC moves by the length of its format (R29, R80). -/
theorem formPost_pc_of_not_transfers {f : Form} {n : Nat} (ht : formTransfers f = false)
    (hn : f.format.length = some n) (hf : formPlain f = true) (s : State) :
    (formPost f s).pc = s.pc + BitVec.ofNat 16 n := by
  cases f with
  | jp | jpCc | call | callCc | ret | retCc => exact nomatch ht
  | prefixByte | unrecognized => exact nomatch hf
  | _ =>
    obtain rfl : _ = n := Option.some.inj hn
    simp [formPost]

/-! ### The halted flag -/

/-- The machine with the halted flag as given. -/
def State.setHalted (s : State) (v : Bool) : State := { s with halted := v }

@[simp] theorem State.setHalted_flags (s : State) (v : Bool) : (s.setHalted v).flags = s.flags := rfl
@[simp] theorem State.setHalted_a (s : State) (v : Bool) : (s.setHalted v).a = s.a := rfl
@[simp] theorem State.setHalted_pc (s : State) (v : Bool) : (s.setHalted v).pc = s.pc := rfl
@[simp] theorem State.setHalted_sp (s : State) (v : Bool) : (s.setHalted v).sp = s.sp := rfl
@[simp] theorem State.setHalted_params (s : State) (v : Bool) : (s.setHalted v).params = s.params := rfl
@[simp] theorem State.getReg_setHalted (s : State) (v : Bool) (r : Reg8) : (s.setHalted v).getReg r = s.getReg r := by
  cases r <;> rfl
@[simp] theorem State.getPair_setHalted (s : State) (v : Bool) (p : PairView) :
    (s.setHalted v).getPair p = s.getPair p := by
  cases p <;> rfl
@[simp] theorem State.getSel_setHalted (s : State) (v : Bool) (p : PairSel) :
    (s.setHalted v).getSel p = s.getSel p := by
  cases p <;> rfl
@[simp] theorem State.hl_setHalted (s : State) (v : Bool) : (s.setHalted v).hl = s.hl := rfl
@[simp] theorem State.byteAt_setHalted (s : State) (v : Bool) (x : Word) : (s.setHalted v).byteAt x = s.byteAt x := rfl
@[simp] theorem State.mapped_setHalted (s : State) (v : Bool) (x : Word) : (s.setHalted v).mapped x = s.mapped x := rfl

/-! Every update of the pseudocode commutes with a write of the halted flag, so each rule moves `setHalted` outwards. -/

@[simp] theorem State.setReg_setHalted (s : State) (v : Bool) (r : Reg8) (w : Byte) :
    (s.setHalted v).setReg r w = (s.setReg r w).setHalted v := by
  cases r <;> rfl
@[simp] theorem State.setPair_setHalted (s : State) (v : Bool) (p : PairView) (w : Word) :
    (s.setHalted v).setPair p w = (s.setPair p w).setHalted v := by
  cases p <;> rfl
@[simp] theorem State.setSel_setHalted (s : State) (v : Bool) (p : PairSel) (w : Word) :
    (s.setHalted v).setSel p w = (s.setSel p w).setHalted v := by
  cases p <;> rfl
@[simp] theorem State.setPc_setHalted (s : State) (v : Bool) (w : Word) :
    (s.setHalted v).setPc w = (s.setPc w).setHalted v := rfl
@[simp] theorem State.setSp_setHalted (s : State) (v : Bool) (w : Word) :
    (s.setHalted v).setSp w = (s.setSp w).setHalted v := rfl
@[simp] theorem State.setFlags_setHalted (s : State) (v : Bool) (f : Flags) :
    (s.setHalted v).setFlags f = (s.setFlags f).setHalted v := rfl
@[simp] theorem State.advance_setHalted (s : State) (v : Bool) (n : Word) :
    (s.setHalted v).advance n = (s.advance n).setHalted v := rfl
@[simp] theorem State.aluCommit_setHalted (s : State) (v : Bool) (o : AluOp) (w : Byte) :
    (s.setHalted v).aluCommit o w = (s.aluCommit o w).setHalted v := rfl
@[simp] theorem State.storeByte_setHalted (s : State) (v : Bool) (x : Word) (w : Byte) :
    (s.setHalted v).storeByte x w = (s.storeByte x w).setHalted v := by
  unfold State.storeByte
  split
  · unfold State.videoWrite
    split <;> rfl
  · rfl
@[simp] theorem State.pushed_setHalted (s : State) (v : Bool) (w : Word) :
    (s.setHalted v).pushed w = (s.pushed w).setHalted v := by
  simp [State.pushed]
@[simp] theorem State.called_setHalted (s : State) (v : Bool) : (s.setHalted v).called = s.called.setHalted v := by
  simp [State.called, State.operand16]
@[simp] theorem State.returned_setHalted (s : State) (v : Bool) :
    (s.setHalted v).returned = s.returned.setHalted v := rfl

/-- No form accesses memory by the halted flag. -/
theorem formAccesses_setHalted (f : Form) (s : State) (v : Bool) : formAccesses f (s.setHalted v) = formAccesses f s := by
  cases f <;> rfl

/-- With the flag set beforehand a form leaves the same state but for the flag. -/
theorem formPost_setHalted_true (f : Form) (s : State) :
    formPost f (s.setHalted true) = (formPost f s).setHalted true := by
  cases f with
  | jpCc cc | callCc cc | retCc cc =>
    by_cases hc : condHolds cc s.flags = true <;> simp [formPost, State.operand16, hc]
  | halt => rfl
  | _ => simp [formPost, State.operand16, State.stackTop]

theorem runForm_setHalted_true {f : Form} {s t : State} (hf : formPlain f = true) (h : runForm f s = .next t) :
    runForm f (s.setHalted true) = .next (t.setHalted true) := by
  obtain ⟨rfl, hm⟩ := runForm_next hf h
  rw [← formPost_setHalted_true]
  exact runForm_of_mapped hf (by simpa [formAccesses_setHalted] using hm)

/-! ### The unrecognized rows and the row of a form -/

/-- What an unrecognized byte does when it answers a next state: nothing (R252). -/
theorem undefinedOpcode_next {op : Byte} {s t : State} (h : undefinedOpcode op s = .next t) :
    s.params.undefPolicy = .inert ∧ t = s := by
  unfold undefinedOpcode at h
  split at h
  · next hp => exact ⟨hp, by injection h with h; exact h.symm⟩
  · exact nomatch h

/-- What the row of a form leaves when it answers a next state. -/
theorem exec_instr_next {f : Form} {s t : State} (hf : formPlain f = true) (h : exec f.instr s = .next t) :
    t = formPost f s := by
  rw [exec_instr_outcome f s hf] at h
  exact (accessOutcome_next h).1

/-- A taken CALL goes to its operand as memory stands after the push (R164, decision D18). -/
theorem State.called_pc (s : State) : s.called.pc = s.called.operand16 s.pc := by
  simp [State.called, State.operand16]

/-- A row of one of the 55 bytes has the form of its byte. -/
theorem Instr.form_of_isUnrecognized {i : Instr} (hi : i.isUnrecognized = true) : ∃ op, i.form = .unrecognized op := by
  unfold Instr.isUnrecognized at hi
  split at hi
  · next op hform => exact ⟨op, hform⟩
  · exact nomatch hi

theorem Instr.length_of_isUnrecognized {i : Instr} (hi : i.isUnrecognized = true) : i.length = none := by
  obtain ⟨op, hform⟩ := Instr.form_of_isUnrecognized hi
  rw [Instr.length, hform]
  rfl

theorem exec_next_of_isUnrecognized {i : Instr} {s t : State} (hi : i.isUnrecognized = true)
    (h : exec i s = .next t) : t = s := by
  obtain ⟨op, hform⟩ := Instr.form_of_isUnrecognized hi
  rw [exec_eq_runForm, hform] at h
  exact (undefinedOpcode_next h).2

end Sys2Proof.Machine
end

section
/-! PROOFS. The statements on registers, pair views, flags, PC and the halted flag (spec/10_state.md). -/

namespace Sys2Proof.Machine

/-! ### The halted flag (R37) -/

/-- HALT alone sets the halted flag, and nothing clears it. -/
theorem exec_halted {i : Instr} {s t : State} (h : exec i s = .next t) :
    t.halted = (s.halted || decide (i = .halt)) := by
  rcases exec_next h with ⟨f, -, rfl, -, hf⟩ | ⟨hi, rfl⟩
  · obtain ⟨-, -, hhalted⟩ := formPost_fixed f s
    have hiff : f = .halt ↔ i = .halt := by
      rcases hf with rfl | ⟨rfl, op2, rfl⟩
      · exact form_eq_halt i
      · exact iff_of_false (cbForm_ne_halt op2) (by decide)
    simp only [hhalted, hiff]
  · have hne : i ≠ .halt := by rintro rfl; exact nomatch hi
    simp [hne]

theorem step_of_halted {s : State} (hf : s.faulted = false) (hh : s.halted = true) : step s = .next s := by
  simp [step, whenRunning, hf, hh]

/-- No instruction reads the halted flag: with the flag set beforehand the outcome is the same but for the flag. -/
theorem exec_setHalted_true {i : Instr} {s t : State} (h : exec i s = .next t) :
    exec i (s.setHalted true) = .next (t.setHalted true) := by
  rw [exec_eq_runForm] at h ⊢
  by_cases hp : formPlain i.form = true
  · exact runForm_setHalted_true hp h
  generalize i.form = f at h hp ⊢
  cases f with
  | prefixByte =>
    rw [runForm_prefixByte] at h ⊢
    obtain ⟨hm, h⟩ := memRead_next h
    have hread := memRead_of_mapped (s.setHalted true) (s.pc + 1) .fetch
      (fun op2 => runForm (cbForm op2) (s.setHalted true)) hm
    exact hread.trans (runForm_setHalted_true (formPlain_cbForm _) h)
  | unrecognized op =>
    obtain ⟨hpol, rfl⟩ := undefinedOpcode_next h
    simp [runForm, undefinedOpcode, hpol]
  | _ => exact absurd rfl hp

theorem hostResume_of_present {s : State} (h : s.params.hostResume = .present) :
    hostResume s = .next { s with halted := false } := by
  simp [hostResume, h]

theorem hostResume_of_absent {s : State} (h : s.params.hostResume = .absent) :
    hostResume s = .refused .resumeAbsent := by
  simp [hostResume, h]

theorem hostWriteHalted_of_present {s : State} (h : s.params.hostResume = .present) (v : Bool) :
    hostWriteHalted v s = .next { s with halted := v } := by
  simp [hostWriteHalted, h]

theorem hostWriteHalted_of_absent {s : State} (h : s.params.hostResume = .absent) (v : Bool) :
    hostWriteHalted v s = .refused .haltedNotWritable := by
  simp [hostWriteHalted, h]

/-- Settles O7: the flag is set by the state HALT leaves, no form reads or clears it, and the rest is the two latch tests
and the host's own operations. -/
theorem haltedFlagLifecycle : Obligations.HaltedFlagLifecycle := by
  refine ⟨?_, ?_, ?_, ?_, ?_, ?_, ?_, ?_⟩
  · exact fun s => ⟨formPost .halt s, rfl, rfl⟩
  · exact fun _ => step_of_halted
  · exact fun _ _ _ => exec_halted
  · exact fun _ _ _ => exec_setHalted_true
  · exact fun s => ⟨s.resetAgain, rfl, rfl⟩
  · exact fun _ => hostResume_of_present
  · exact fun _ => hostResume_of_absent
  · exact fun _ v => ⟨fun h => hostWriteHalted_of_present h v, fun h => hostWriteHalted_of_absent h v⟩

/-! ### What an instruction leaves alone -/

/-- Settles O16, by the flags of the state each form leaves. -/
theorem flagsUntouchedByOthers : Obligations.FlagsUntouchedByOthers := by
  intro i s t hi h
  rcases exec_next_plain hi h with ⟨-, rfl, -⟩ | ⟨-, rfl⟩
  · refine ⟨fun hf => formPost_flags_of_not_writesFlags hf s, fun hf => formPost_carry_of_incDecBit hf s, ?_⟩
    rintro ⟨p, hp⟩
    rw [hp]
    rfl
  · exact ⟨fun _ => rfl, fun _ => rfl, fun _ => rfl⟩

/-- Settles O55, by the registers and SP of the state each form leaves. -/
theorem registerFrame : Obligations.RegisterFrame := by
  intro i s t hi h
  rcases exec_next_plain hi h with ⟨-, rfl, -⟩ | ⟨-, rfl⟩
  · exact ⟨fun _ hr => formPost_getReg_of_notMem hr s, fun hf => formPost_sp_of_not_movesSp hf s⟩
  · exact ⟨fun _ _ => rfl, fun _ => rfl⟩

/-! ### The program counter (R29) -/

/-- A row that is no control transfer moves PC by its length. -/
theorem exec_pc_of_not_transfers {i : Instr} {s t : State} {n : Nat} (hi : i ≠ .prefix_CB)
    (ht : formTransfers i.form = false) (hn : i.length = some n) (h : exec i s = .next t) :
    t.pc = s.pc + BitVec.ofNat 16 n := by
  rcases exec_next_plain hi h with ⟨hp, rfl, -⟩ | ⟨hu, -⟩
  · exact formPost_pc_of_not_transfers ht hn hp s
  · rw [Instr.length_of_isUnrecognized hu] at hn
    exact nomatch hn

/-- A transfer not taken moves PC past the instruction; its operand is not read. -/
theorem exec_pc_of_not_taken {cc : Cond} {s t : State} (hc : condHolds cc s.flags = false) :
    (exec (Form.jpCc cc).instr s = .next t ∨ exec (Form.callCc cc).instr s = .next t → t.pc = s.pc + 3) ∧
    (exec (Form.retCc cc).instr s = .next t → t.pc = s.pc + 1) := by
  refine ⟨?_, fun h => ?_⟩
  · rintro (h | h) <;> simp [exec_instr_next rfl h, formPost, hc]
  · simp [exec_instr_next rfl h, formPost, hc]

/-- What a taken JP or CALL leaves. -/
theorem exec_of_taken_to_operand {cc : Cond} {s t : State}
    (h : exec .jp_nn s = .next t ∨ exec .call_nn s = .next t ∨
      condHolds cc s.flags = true ∧
        (exec (Form.jpCc cc).instr s = .next t ∨ exec (Form.callCc cc).instr s = .next t)) :
    t = s.setPc (s.operand16 s.pc) ∨ t = s.called := by
  rcases h with h | h | ⟨hc, h | h⟩
  · exact Or.inl (exec_instr_next (f := .jp) rfl h)
  · exact Or.inr (exec_instr_next (f := .call) rfl h)
  · exact Or.inl (by simp [exec_instr_next rfl h, formPost, hc])
  · exact Or.inr (by simp [exec_instr_next rfl h, formPost, hc])

/-- What a taken RET leaves. -/
theorem exec_of_taken_ret {cc : Cond} {s t : State}
    (h : exec .ret s = .next t ∨ condHolds cc s.flags = true ∧ exec (Form.retCc cc).instr s = .next t) :
    t = s.returned := by
  rcases h with h | ⟨hc, h⟩
  · exact exec_instr_next (f := .ret) rfl h
  · simp [exec_instr_next rfl h, formPost, hc]

theorem step_next_of_halted {s t : State} (hh : s.halted = true) (h : step s = .next t) : t = s := by
  obtain ⟨-, rfl | ⟨hrun, -⟩⟩ := step_next h
  · rfl
  · exact absurd (hh.symm.trans hrun) (by decide)

/-- Settles O56, by the PC of the state each form leaves. -/
theorem programCounterAdvance : Obligations.ProgramCounterAdvance := by
  refine ⟨?_, ?_, ?_, ?_, ?_, ?_⟩
  · exact fun _ _ _ _ => exec_pc_of_not_transfers
  · exact fun _ _ _ hi h => congrArg State.pc (exec_next_of_isUnrecognized hi h)
  · exact fun _ _ _ => exec_pc_of_not_taken
  · intro cc s t h
    rcases exec_of_taken_to_operand h with rfl | rfl
    · simp [State.operand16]
    · exact s.called_pc
  · intro cc s t h
    rw [exec_of_taken_ret h]
    rfl
  · exact fun _ _ hh h => congrArg State.pc (step_next_of_halted hh h)

/-! ### Registers, pair views and the flags byte -/

/-- Settles O12, by the frame of a register write. -/
theorem registersAreIndependent : Obligations.RegistersAreIndependent := by
  intro s r q v
  exact ⟨s.getReg_setReg r q v, s.setReg_flags r v, s.setReg_pc r v, s.setReg_sp r v, s.setReg_halted r v,
    s.setReg_faulted r v, s.setReg_vram r v, s.setReg_tiles r v, s.setReg_hostMem r v, s.setReg_params r v⟩

/-- The low nibble of AF is 0 (R24, R32). -/
theorem State.getPair_af_mod (s : State) : (s.getPair .af).toNat % 16 = 0 := by
  have h : (s.getPair .af).toNat = 256 * s.a.toNat + (flagsByte s.flags).toNat := append_toNat _ _
  rw [h, flagsByte_toNat]
  omega

/-- The flags decoded from the low byte of a word (R25, R33). -/
theorem flagsOfByte_lowByte (v : Word) :
    flagsOfByte (v.extractLsb' 0 8) =
      { z := v.getLsbD 7, n := v.getLsbD 6, h := v.getLsbD 5, c := v.getLsbD 4 } := by
  simp [flagsOfByte]

/-- Settles O13, by the arithmetic of the two bytes of a word. -/
theorem pairViewsReadAndWrite : Obligations.PairViewsReadAndWrite := by
  intro s v
  refine ⟨append_toNat _ _, append_toNat _ _, append_toNat _ _, append_toNat _ _, s.getPair_af_mod, ?_, ?_, ?_, ?_⟩ <;>
    simp only [State.setPair, highByte_eq, lowByte_eq]
  rw [← lowByte_eq, flagsOfByte_lowByte]

theorem State.getPair_setPair (s : State) {p : PairView} (h : p ≠ .af) (v : Word) : (s.setPair p v).getPair p = v := by
  cases p with
  | af => exact absurd rfl h
  | bc | de | hl => exact append_bytes v

/-- AF loses the low nibble of what is written to it (R26). -/
theorem State.getPair_setPair_af (s : State) (v : Word) : (s.setPair .af v).getPair .af = v &&& 0xFFF0 := by
  have hmask : (0xFFF0 : Word) = BitVec.allOnes 8 ++ (0xF0 : Byte) := rfl
  calc (s.setPair .af v).getPair .af
      = (v.extractLsb' 8 8 : Byte) ++ flagsByte (flagsOfByte (v.extractLsb' 0 8)) := rfl
    _ = (v.extractLsb' 8 8 &&& BitVec.allOnes 8 : Byte) ++ (v.extractLsb' 0 8 &&& 0xF0 : Byte) := by
      rw [flagsByte_flagsOfByte, BitVec.and_allOnes]
    _ = ((v.extractLsb' 8 8 : Byte) ++ (v.extractLsb' 0 8 : Byte)) &&& (BitVec.allOnes 8 ++ (0xF0 : Byte)) :=
      BitVec.and_append.symm
    _ = v &&& 0xFFF0 := by rw [append_bytes, hmask]

/-- Settles O14, by the round trips of the two bytes and of the flags byte. -/
theorem pairWriteThenRead : Obligations.PairWriteThenRead :=
  ⟨fun s v => ⟨fun _ hp => s.getPair_setPair hp v, s.getPair_setPair_af v⟩, flagsByte_flagsOfByte⟩

/-- Settles O15, by the arithmetic of the flags byte. -/
theorem flagsByteLayout : Obligations.FlagsByteLayout :=
  ⟨fun f => ⟨flagsByte_toNat f, flagsOfByte_flagsByte f⟩, fun _ => rfl⟩

end Sys2Proof.Machine
end

section
/-! PROOFS. The statements on the bus and on instructions that store nothing (spec/20_memory.md R51 to R54, R65). -/

namespace Sys2Proof.Machine

/-! ### Where an access goes (R51, R52) -/

theorem State.mapped_of_inVideo (s : State) {x : Word} (h : inVideo x = true) : s.mapped x = true := by
  simp [State.mapped, h]

theorem State.mapped_of_hostOwns {s : State} {x : Word} (h : hostOwns s.params x = true) : s.mapped x = true := by
  simp [State.mapped, h]

theorem State.mapped_eq_false {s : State} {x : Word} (hv : inVideo x = false) (ho : hostOwns s.params x = false) :
    s.mapped x = false := by
  simp [State.mapped, hv, ho]

theorem State.byteAt_of_inVideo (s : State) {x : Word} (h : inVideo x = true) :
    s.byteAt x = s.videoRead (x.toNat - 0x8000) := by
  rw [State.byteAt, if_pos h, videoOffset_eq x h]

theorem State.byteAt_of_not_inVideo (s : State) {x : Word} (h : inVideo x = false) :
    s.byteAt x = sparseGet fillByte s.hostMem x.toNat := by
  simp [State.byteAt, h]

theorem State.storeByte_of_inVideo (s : State) {x : Word} (h : inVideo x = true) (v : Byte) :
    s.storeByte x v = s.videoWrite (x.toNat - 0x8000) v := by
  rw [State.storeByte, if_pos h, videoOffset_eq x h]

theorem State.storeByte_of_not_inVideo (s : State) {x : Word} (h : inVideo x = false) (v : Byte) :
    s.storeByte x v = { s with hostMem := sparsePut fillByte s.hostMem x.toNat v } := by
  simp [State.storeByte, h]

theorem hostOwns_eq_false_of_forall {p : Params} {x : Word}
    (h : ∀ r ∈ p.hostRegion, x.toNat < r.lo.toNat ∨ r.hi.toNat < x.toNat) : hostOwns p x = false := by
  refine Bool.eq_false_iff.mpr fun hown => ?_
  obtain ⟨-, r, hr, hlo, hhi⟩ := (hostOwns_eq_true p x).mp hown
  rcases h r hr with hlt | hgt
  · exact Nat.not_lt.mpr hlo hlt
  · exact Nat.not_lt.mpr hhi hgt

/-- Settles O22: the window, the host's region and the rest decide `mapped`, and the first two where the byte is. -/
theorem busOperations : Obligations.BusOperations := by
  intro s x k v f g
  refine ⟨fun hlo hhi => ?window, fun hout hregion => ?host, fun hout hnone => ?unmapped⟩
  case window =>
    have hv : inVideo x = true := (inVideo_eq_true x).mpr ⟨hlo, hhi⟩
    have hm := s.mapped_of_inVideo hv
    rw [memRead_of_mapped _ _ _ _ hm, memWrite_of_mapped _ _ _ _ hm, s.byteAt_of_inVideo hv, s.storeByte_of_inVideo hv]
    exact ⟨rfl, rfl⟩
  case host =>
    have hv : inVideo x = false := (inVideo_eq_false x).mpr hout
    have hm := State.mapped_of_hostOwns ((hostOwns_eq_true s.params x).mpr ⟨hout, hregion⟩)
    rw [memRead_of_mapped _ _ _ _ hm, memWrite_of_mapped _ _ _ _ hm, s.byteAt_of_not_inVideo hv,
      s.storeByte_of_not_inVideo hv]
    exact ⟨rfl, rfl⟩
  case unmapped =>
    have hm := State.mapped_eq_false ((inVideo_eq_false x).mpr hout) (hostOwns_eq_false_of_forall hnone)
    exact ⟨memRead_of_unmapped _ _ _ _ hm, memWrite_of_unmapped _ _ _ _ hm⟩

/-! ### What a store changes (R53) -/

/-- A device write changes raw video memory and the tile set alone (R235). -/
theorem State.videoWrite_eq_with (s : State) (o : Nat) (v : Byte) :
    ∃ vr ti, s.videoWrite o v = { s with vram := vr, tiles := ti } := by
  unfold State.videoWrite
  split
  · exact ⟨_, _, rfl⟩
  · exact ⟨_, s.tiles, rfl⟩

/-- A store changes the three memories alone. -/
theorem State.storeByte_eq_with (s : State) (x : Word) (v : Byte) :
    ∃ vr ti hm, s.storeByte x v = { s with vram := vr, tiles := ti, hostMem := hm } := by
  cases hv : inVideo x with
  | true =>
    obtain ⟨vr, ti, hw⟩ := s.videoWrite_eq_with (x.toNat - 0x8000) v
    exact ⟨vr, ti, s.hostMem, (s.storeByte_of_inVideo hv v).trans hw⟩
  | false => exact ⟨s.vram, s.tiles, _, s.storeByte_of_not_inVideo hv v⟩

/-- Settles O23, by read after write on the bus and the frame of a store. -/
theorem storedByteIsReadBack : Obligations.StoredByteIsReadBack :=
  fun s x y v => ⟨s.byteAt_storeByte x y v, s.storeByte_eq_with x v⟩

/-! ### Forms that store nothing -/

theorem ne_prefix_CB_of_storesNothing {i : Instr} (h : formStoresNothing i.form = true) : i ≠ .prefix_CB := by
  rintro rfl
  exact nomatch h

/-- A form that stores nothing leaves all three memories. -/
theorem formPost_memory_of_storesNothing {f : Form} (h : formStoresNothing f = true) (s : State) :
    (formPost f s).vram = s.vram ∧ (formPost f s).tiles = s.tiles ∧ (formPost f s).hostMem = s.hostMem := by
  cases f with
  | incMem | decMem | stReg | stImm | shiftMem | resMem | setMem | push | call | callCc | prefixByte => exact nomatch h
  | jpCc cc | retCc cc => simp only [formPost]; split <;> exact ⟨rfl, rfl, rfl⟩
  | halt | ret => exact ⟨rfl, rfl, rfl⟩
  | _ => simp [formPost]

/-- Settles O52, by the memories of the state each form leaves. -/
theorem nonStoringInstructionsKeepMemory : Obligations.NonStoringInstructionsKeepMemory := by
  intro i s t hi h
  rcases exec_next_plain (ne_prefix_CB_of_storesNothing hi) h with ⟨-, rfl, -⟩ | ⟨-, rfl⟩
  · obtain ⟨hvram, htiles, hhost⟩ := formPost_memory_of_storesNothing hi s
    exact ⟨State.byteAt_congr s _ hvram hhost, hvram, htiles, hhost⟩
  · exact ⟨fun _ => rfl, rfl, rfl, rfl⟩

end Sys2Proof.Machine
end

section
/-! PROOFS. Lemmas for the statements on encoding (spec/30_encoding.md): what the decoder reads and what it leaves,
which rows the bytes of each space select, the bytes that are no instruction, and the forms of the secondary space. -/

namespace Sys2Proof

/-! ### What the decoder reads (R97, R101) -/

/-- All the decoder can do when it answers a row: read one byte of the main space, or 0xCB and one byte of the secondary
space. -/
theorem decode_ok {bytes rest : List Byte} {i : Instr} (h : decode bytes = .ok (i, rest)) :
    (∃ op, op ≠ 0xCB ∧ bytes = op :: rest ∧ i = decodeMain op) ∨
    ∃ op2, bytes = 0xCB :: op2 :: rest ∧ i = decodeCb op2 := by
  cases bytes with
  | nil => exact nomatch h
  | cons op tail =>
    by_cases hop : op = 0xCB
    · subst hop
      cases tail with
      | nil => exact nomatch h
      | cons op2 tail =>
        rw [decode_cb] at h
        cases h
        exact Or.inr ⟨op2, rfl, rfl⟩
    · rw [decode_main hop] at h
      cases h
      exact Or.inl ⟨op, hop, rfl, rfl⟩

/-- The decoder does not look past the opcode: bytes appended to a list that decodes are left over. -/
theorem decode_append {bytes rest : List Byte} {i : Instr} (h : decode bytes = .ok (i, rest)) (tail : List Byte) :
    decode (bytes ++ tail) = .ok (i, rest ++ tail) := by
  rcases decode_ok h with ⟨op, hop, rfl, rfl⟩ | ⟨op2, rfl, rfl⟩
  · exact decode_main hop (rest ++ tail)
  · exact decode_cb op2 (rest ++ tail)

/-! ### Opcode bytes of a row, row of the opcode bytes (R91 to R95) -/

/-- Every row but that of the byte 0xCB, which is no whole opcode, is read back from its opcode bytes. -/
theorem decode_encode {i : Instr} (h : i.whole = true) : decode (encode i) = .ok (i, []) := by
  cases i with
  | prefix_CB => exact nomatch h
  | _ => rfl

theorem decode_encode_append (i : Instr) (rest : List Byte) (h : i.whole = true) :
    decode (encode i ++ rest) = .ok (i, rest) :=
  decode_append (decode_encode h) rest

theorem encode_decodeMain (op : Byte) : encode (decodeMain op) = [op] := by
  revert op
  decide

theorem encode_decodeCb (op2 : Byte) : encode (decodeCb op2) = [0xCB, op2] := by
  revert op2
  decide

theorem decodeMain_eq_prefix_CB (op : Byte) : decodeMain op = .prefix_CB ↔ op = 0xCB := by
  refine ⟨fun h => ?_, fun h => h ▸ rfl⟩
  have hbytes : [op] = [0xCB] := (encode_decodeMain op).symm.trans (congrArg encode h)
  exact List.singleton_inj.mp hbytes

/-! ### Rows that are no instruction (R98, R102) -/

/-- The row of a form is unrecognized exactly when the form is. -/
theorem Form.isUnrecognized_instr (f : Form) : f.instr.isUnrecognized = true ↔ ∃ op, f = .unrecognized op := by
  refine ⟨fun h => ?_, ?_⟩
  · by_contra hne
    obtain ⟨op, hform⟩ := Machine.Instr.form_of_isUnrecognized h
    rw [Machine.form_instr f fun op hf => hne ⟨op, hf⟩] at hform
    exact hne ⟨op, hform⟩
  · rintro ⟨op, rfl⟩
    simp only [Form.instr, unrecognizedInstr]
    split <;> rfl

theorem Form.instr_eq_prefix_CB (f : Form) : f.instr = .prefix_CB ↔ f = .prefixByte := by
  refine ⟨fun h => ?_, fun h => h ▸ rfl⟩
  have hf : ∀ op, f ≠ .unrecognized op := by
    intro op hf
    have hu := f.isUnrecognized_instr.mpr ⟨op, hf⟩
    rw [h] at hu
    exact nomatch hu
  exact (Machine.form_instr f hf).symm.trans (congrArg Instr.form h)

/-- `DecodeMain` answers no instruction at the unrecognized bytes and at 0xCB (R97). -/
theorem decodeMainOption_eq_none (op : Byte) :
    decodeMainOption op = none ↔ (decodeMain op).isUnrecognized = true ∨ op = 0xCB := by
  rw [← decodeMain_eq_prefix_CB, decodeMain, Form.isUnrecognized_instr, Form.instr_eq_prefix_CB, decodeMainOption]
  cases mainForm op <;> simp

/-! ### The families the source leaves without rules (R98) -/

/-- The bytes of the refused families, as the spec lists them. -/
theorem unspecByte_of_listed {op : Byte}
    (h : op ∈ ([0x07, 0x0F, 0x17, 0x1F, 0xCE, 0xDE, 0xE6, 0xEE, 0xF6, 0xFE, 0xCB] : List Byte) ∨
      (0x88 ≤ op.toNat ∧ op.toNat ≤ 0x8F) ∨ (0x98 ≤ op.toNat ∧ op.toNat ≤ 0x9F) ∨
      (0xA0 ≤ op.toNat ∧ op.toNat ≤ 0xBF)) : unspecByte op = true := by
  rcases h with hsingle | hadc | hsbc | hlogic
  · have hall : ∀ b ∈ ([0x07, 0x0F, 0x17, 0x1F, 0xCE, 0xDE, 0xE6, 0xEE, 0xF6, 0xFE, 0xCB] : List Byte),
        unspecByte b = true := by decide
    exact hall op hsingle
  · simp [unspecByte, hadc]
  · simp [unspecByte, hsbc]
  · simp [unspecByte, hlogic]

/-! ### The forms of the secondary space (R95) -/

theorem cbForm_format (op2 : Byte) : (cbForm op2).format = .cbOp := by
  unfold cbForm
  simp only
  split <;> rfl

theorem formTransfers_of_cbOp {f : Form} (h : f.format = .cbOp) : Machine.formTransfers f = false := by
  cases f with
  | jp | jpCc | call | callCc | ret | retCc => exact nomatch h
  | _ => rfl

/-- An instruction of the secondary space accesses the byte at HL and no other (R200, R218). -/
theorem formAccesses_of_cbOp {f : Form} (h : f.format = .cbOp) (s : Machine.State) :
    ∀ e ∈ Machine.formAccesses f s, e.1 = s.hl := by
  cases f with
  | shiftReg | shiftMem | bitReg | bitMem | resReg | resMem | setReg | setMem | prefixByte =>
    simp [Machine.formAccesses]
  | _ => exact nomatch h

end Sys2Proof

namespace Sys2Proof.Machine

/-! ### A step at an unrecognized or refused byte (R98, R252) -/

theorem undefinedOpcode_of_inert {s : State} (h : s.params.undefPolicy = .inert) (op : Byte) :
    undefinedOpcode op s = .next s := by
  simp [undefinedOpcode, h]

theorem undefinedOpcode_of_fatal {s : State} (h : s.params.undefPolicy = .fatal) (op : Byte) :
    undefinedOpcode op s = .fault (.undefinedOpcode op s.pc) := by
  simp [undefinedOpcode, h]

/-- A byte of the families the source leaves without rules, where they are refused, does what an unrecognized byte does
before anything after it is read (R98). -/
theorem step_of_refusesByte {s : State} (hf : s.faulted = false) (hh : s.halted = false) (hm : s.mapped s.pc = true)
    (hr : s.refusesByte (s.byteAt s.pc) = true) : step s = undefinedOpcode (s.byteAt s.pc) s := by
  rw [step_of_mapped s hf hh hm, if_pos hr]

/-! ### Running a row of the secondary space (R101, R102) -/

/-- A row of the secondary space completes when HL is mapped, two bytes further (R102). -/
theorem exec_decodeCb_of_mapped {s : State} (hm : s.mapped s.hl = true) (op2 : Byte) :
    exec (decodeCb op2) s = .next (formPost (cbForm op2) s) ∧ (formPost (cbForm op2) s).pc = s.pc + 2 := by
  have hformat := cbForm_format op2
  have hplain := formPlain_cbForm op2
  constructor
  · rw [exec_eq_runForm, form_decodeCb]
    exact runForm_of_mapped hplain fun e he => by rw [formAccesses_of_cbOp hformat s e he, hm]
  · exact formPost_pc_of_not_transfers (formTransfers_of_cbOp hformat) (by rw [hformat]; rfl) hplain s

end Sys2Proof.Machine
end

section
/-! PROOFS. The statements on encoding (spec/30_encoding.md). -/

namespace Sys2Proof

/-- Settles O3: each row is read back from its opcode bytes, and the decoder does not look past them. -/
theorem decodeReadsBackEveryEncoding : Obligations.DecodeReadsBackEveryEncoding := by
  intro i rest hi
  obtain ⟨-, hwhole⟩ := Bool.and_eq_true_iff.mp hi
  exact decode_encode_append i rest hwhole

/-- Settles O4: the bytes the decoder reads are those of the row it answers, in each of the two spaces. -/
theorem decodedBytesAreTheEncoding : Obligations.DecodedBytesAreTheEncoding := by
  intro bytes rest i h
  rcases decode_ok h with ⟨op, -, rfl, rfl⟩ | ⟨op2, rfl, rfl⟩
  · rw [encode_decodeMain]
    rfl
  · rw [encode_decodeCb]
    rfl

/-- Settles O1: each word is the opcode bytes of its row, followed by its immediate. -/
theorem writtenWordsDecode : Obligations.WrittenWordsDecode := by
  have h := decode_encode_append
  exact ⟨h .nop [] rfl, h .halt [] rfl, h .rla [] rfl, h .add_A_mHL [] rfl, h .sbc_A_n [0x02] rfl, h .cp_B [] rfl,
    h .add_HL_SP [] rfl, h .inc_mHL [] rfl, h .dec_DE [] rfl, h .push_AF [] rfl, h .jp_NC_nn [0x34, 0x12] rfl,
    h .call_nn [0x00, 0x10] rfl, h .ret_Z [] rfl, h .ld_H_mHL [] rfl, h .ld_mHL_n [0xAB] rfl, h .sra_L [] rfl,
    h .bit_6_mHL [] rfl, h .res_3_D [] rfl, h .set_1_E [] rfl, h .unrecognized_D3 [] rfl⟩

/-- Settles O2: the 55 bytes by a look at all 256, and the bytes without an instruction by the form of the row. -/
theorem unrecognizedBytesAreTheFiftyFive : Obligations.UnrecognizedBytesAreTheFiftyFive :=
  fun op => ⟨by revert op; decide, decodeMainOption_eq_none op⟩

end Sys2Proof

namespace Sys2Proof.Machine

/-- Settles O10: the byte is one of the 59 that the parameter refuses. -/
theorem refusedFamiliesActAsUnrecognized : Obligations.RefusedFamiliesActAsUnrecognized := by
  intro s hf hh hm hparam hbyte
  have hr : s.refusesByte (s.byteAt s.pc) = true := by
    rw [State.refusesByte, hparam, unspecByte_of_listed hbyte]
    rfl
  rw [step_of_refusesByte hf hh hm hr]
  exact ⟨fun h => undefinedOpcode_of_inert h _, fun h => undefinedOpcode_of_fatal h _⟩

/-- Settles O11, by the read of the second byte and what every row of the secondary space does. -/
theorem prefixRowRunsSecondarySpace : Obligations.PrefixRowRunsSecondarySpace := by
  intro s
  rw [exec_prefixByte]
  have hread := memRead_of_mapped s (s.pc + 1) .fetch fun op2 => exec (decodeCb op2) s
  refine ⟨hread, memRead_of_unmapped s (s.pc + 1) .fetch _, fun hm hhl => ?_⟩
  obtain ⟨hexec, hpc⟩ := exec_decodeCb_of_mapped hhl (s.byteAt (s.pc + 1))
  exact ⟨_, (hread hm).trans hexec, hpc⟩

end Sys2Proof.Machine
end

section
/-! PROOFS. Lemmas for the statements on 8-bit arithmetic and logic (spec/40_alu8.md): exec of a form whose accesses are
mapped or not, the state an ALU operation leaves, and the operations bit by bit. -/

namespace Sys2Proof.Machine

/-! ### exec of the row of a form -/

theorem exec_instr_of_mapped {f : Form} {s : State} (hf : formPlain f = true)
    (hm : ∀ e ∈ formAccesses f s, s.mapped e.1 = true) : exec f.instr s = .next (formPost f s) := by
  rw [exec_instr_outcome f s hf, accessOutcome_of_mapped hm]

/-- A form whose first access is not mapped faults there. -/
theorem exec_instr_of_first_unmapped {f : Form} {s : State} {x : Word} {k : Access} {rest : List (Word × Access)}
    (hf : formPlain f = true) (ha : formAccesses f s = (x, k) :: rest) (hm : s.mapped x = false) :
    exec f.instr s = .fault (.busFault x k) := by
  rw [exec_instr_outcome f s hf, ha]
  simp [accessOutcome, hm]

/-! ### The three forms of an ALU operation (R112) -/

/-- Every ALU operation takes its operand from a register, from memory at HL or from the instruction, and does the same
with it: `post v n` is the state it leaves with the operand `v` in a form of `n` bytes. -/
theorem exec_alu_forms {o : AluOp} {s : State} {post : Byte → Word → State}
    (hpost : ∀ v n, (s.aluCommit o v).advance n = post v n) :
    (∀ r, exec (Form.aluReg o r).instr s = .next (post (s.getReg r) 1)) ∧
    (s.mapped s.hl = true → exec (Form.aluMem o).instr s = .next (post (s.byteAt s.hl) 1)) ∧
    (s.mapped s.hl = false → exec (Form.aluMem o).instr s = .fault (.busFault s.hl .read)) ∧
    (s.mapped (s.pc + 1) = true → exec (Form.aluImm o).instr s = .next (post (s.byteAt (s.pc + 1)) 2)) ∧
    (s.mapped (s.pc + 1) = false → exec (Form.aluImm o).instr s = .fault (.busFault (s.pc + 1) .fetch)) := by
  simp only [← hpost]
  refine ⟨fun r => ?reg, fun hm => ?mem, exec_instr_of_first_unmapped rfl rfl, fun hm => ?imm,
    exec_instr_of_first_unmapped rfl rfl⟩
  case reg => exact exec_instr_of_mapped (f := .aluReg o r) rfl (by simp [formAccesses])
  case mem => exact exec_instr_of_mapped (f := .aluMem o) rfl (by simpa [formAccesses] using hm)
  case imm => exact exec_instr_of_mapped (f := .aluImm o) rfl (by simpa [formAccesses] using hm)

/-! ### The state an ALU operation leaves -/

/-- The accumulator, the flags and PC are written, and nothing else. -/
theorem State.advance_aluCommit {s : State} {o : AluOp} {v w : Byte} {f : Flags}
    (h : alu8 o s.a v s.flags.c = (w, f)) (n : Word) :
    (s.aluCommit o v).advance n = { s with a := w, flags := f, pc := s.pc + n } := by
  simp only [State.aluCommit, h]
  rfl

/-! ### Subtraction with borrow-in, and the bitwise operations -/

/-- Z of a subtraction with borrow-in, in plain arithmetic (R111). -/
theorem sub_sub_ofNat_eq_zero_iff (a v : Byte) (b : Bool) :
    a - v - BitVec.ofNat 8 b.toNat = 0 ↔ (256 + a.toNat - (v.toNat + b.toNat)) % 256 = 0 := by
  have hb := b.toNat_le
  bv_omega

/-- `Sub8` of R111 with Z in plain arithmetic. -/
theorem sub8_eq_arith (a v : Byte) (b : Bool) :
    sub8 a v b =
      (a - v - BitVec.ofNat 8 b.toNat,
        { z := decide ((256 + a.toNat - (v.toNat + b.toNat)) % 256 = 0), n := true
          h := decide (a.toNat % 16 < v.toNat % 16 + b.toNat), c := decide (a.toNat < v.toNat + b.toNat) }) := by
  simp only [sub8_eq, sub_sub_ofNat_eq_zero_iff]

/-- AND, XOR and OR combine the operands bit by bit, and AND alone sets H (R126, R129, R132). -/
theorem alu8_bitwise {o : AluOp} {half : Bool} {bitOp : Bool → Bool → Bool}
    (h : (o, half, bitOp) = (.and, true, and) ∨ (o, half, bitOp) = (.xor, false, xor) ∨
      (o, half, bitOp) = (.or, false, or)) (a v : Byte) (carry : Bool) :
    ∃ w : Byte, (∀ k, k < 8 → w.getLsbD k = bitOp (a.getLsbD k) (v.getLsbD k)) ∧ alu8 o a v carry = logic8 w half := by
  rcases h with h | h | h <;> cases h
  · exact ⟨a &&& v, fun _ _ => BitVec.getLsbD_and, rfl⟩
  · exact ⟨a ^^^ v, fun _ _ => BitVec.getLsbD_xor, rfl⟩
  · exact ⟨a ||| v, fun _ _ => BitVec.getLsbD_or, rfl⟩

end Sys2Proof.Machine
end

section
/-! PROOFS. The statements on 8-bit arithmetic and logic (spec/40_alu8.md). -/

namespace Sys2Proof.Machine

/-- Settles O25, by the three forms and the sum without a carry-in. -/
theorem addToAccumulator : Obligations.AddToAccumulator := by
  intro s post
  exact exec_alu_forms (post := post) fun v => State.advance_aluCommit (add8_false s.a v)

/-- Settles O26, by the three forms and the sum with the old carry. -/
theorem addWithCarry : Obligations.AddWithCarry := by
  intro s cin post
  exact exec_alu_forms (post := post) fun v => State.advance_aluCommit (add8_eq s.a v s.flags.c)

/-- Settles O27, by the three forms and the difference without a borrow-in. -/
theorem subtractFromAccumulator : Obligations.SubtractFromAccumulator := by
  intro s post
  exact exec_alu_forms (post := post) fun v => State.advance_aluCommit (sub8_false s.a v)

/-- Settles O28, by the three forms and the difference with the old carry. -/
theorem subtractWithCarry : Obligations.SubtractWithCarry := by
  intro s cin post
  exact exec_alu_forms (post := post) fun v => State.advance_aluCommit (sub8_eq_arith s.a v s.flags.c)

/-- Settles O29, by the three forms and the three operations bit by bit. -/
theorem bitwiseOnAccumulator : Obligations.BitwiseOnAccumulator := by
  intro s o half bitOp ho good post
  have hnext : ∀ {i : Instr} {v : Byte} {n : Word}, exec i s = .next ((s.aluCommit o v).advance n) →
      ∃ w, good v w ∧ exec i s = .next (post w n) := fun {i v n} h => by
    obtain ⟨w, hgood, halu⟩ := alu8_bitwise ho s.a v s.flags.c
    exact ⟨w, hgood, h.trans (congrArg _ (State.advance_aluCommit halu n))⟩
  obtain ⟨hreg, hmem, hmemFault, himm, himmFault⟩ := exec_alu_forms (o := o) (s := s) fun _ _ => rfl
  exact ⟨fun r => hnext (hreg r), fun hm => hnext (hmem hm), hmemFault, fun hm => hnext (himm hm), himmFault⟩

/-- Settles O30, by the three forms: CP leaves the accumulator beside the flags of SUB. -/
theorem compareKeepsAccumulator : Obligations.CompareKeepsAccumulator := by
  intro s post
  have hcp : ∀ v, alu8 .cp s.a v s.flags.c = (s.a, _) := fun v => congrArg (s.a, ·.2) (sub8_false s.a v)
  exact exec_alu_forms (post := post) fun v => State.advance_aluCommit (hcp v)

end Sys2Proof.Machine
end

section
/-! PROOFS. Lemmas for the statements on 16-bit addition, increments and decrements (spec/41_add16_incdec.md): the opcode
byte of each form, and the state it leaves in plain arithmetic. -/

namespace Sys2Proof.Machine

/-! ### Opcode bytes (R91) -/

theorem encode_addHl (p : PairSel) : encode (Form.addHl p).instr = [BitVec.ofNat 8 (0x09 + 16 * p.sel)] := by
  cases p <;> rfl

theorem encode_inc16 (p : PairSel) : encode (Form.inc16 p).instr = [BitVec.ofNat 8 (0x03 + 16 * p.sel)] := by
  cases p <;> rfl

theorem encode_dec16 (p : PairSel) : encode (Form.dec16 p).instr = [BitVec.ofNat 8 (0x0B + 16 * p.sel)] := by
  cases p <;> rfl

theorem encode_incReg (r : Reg8) : encode (Form.incReg r).instr = [BitVec.ofNat 8 (0x04 + 8 * r.sel)] := by
  cases r <;> rfl

theorem encode_decReg (r : Reg8) : encode (Form.decReg r).instr = [BitVec.ofNat 8 (0x05 + 8 * r.sel)] := by
  cases r <;> rfl

/-! ### Operands of table A and pair views (R84) -/

/-- BC, DE and HL as operands of table A are the pair views of the same name. -/
theorem sel_eq_pair {p : PairSel} {q : PairView} (h : (p, q) ∈ [(.bc, .bc), (.de, .de), (PairSel.hl, PairView.hl)])
    (s : State) : s.getSel p = s.getPair q ∧ ∀ v, s.setSel p v = s.setPair q v := by
  simp only [List.mem_cons, Prod.mk.injEq, List.not_mem_nil, or_false] at h
  rcases h with ⟨rfl, rfl⟩ | ⟨rfl, rfl⟩ | ⟨rfl, rfl⟩ <;> exact ⟨rfl, fun _ => rfl⟩

/-- A 16-bit sum written to HL, byte by byte: the carry out of bit 15 is in neither byte. -/
theorem State.setPair_hl_add (s : State) (v w : Word) :
    s.setPair .hl (v + w) =
      { s with h := BitVec.ofNat 8 ((v.toNat + w.toNat) / 256), l := BitVec.ofNat 8 (v.toNat + w.toNat) } := by
  have hhigh : ((v + w).extractLsb' 8 8 : Byte) = BitVec.ofNat 8 ((v.toNat + w.toNat) / 256) := by
    rw [highByte_eq]
    bv_omega
  have hlow : ((v + w).extractLsb' 0 8 : Byte) = BitVec.ofNat 8 (v.toNat + w.toNat) := by
    rw [lowByte_eq]
    bv_omega
  simp only [State.setPair, hhigh, hlow]

/-! ### The state a form leaves -/

/-- PC advanced over a state that still has the PC of the state before. -/
theorem State.advance_of_pc_eq {s t : State} (h : t.pc = s.pc) (n : Word) :
    t.advance n = { t with pc := s.pc + n } := by
  rw [State.advance, h]
  rfl

theorem State.advance_setFlags {s t : State} (h : t.pc = s.pc) (f : Flags) (n : Word) :
    (t.setFlags f).advance n = { t with flags := f, pc := s.pc + n } :=
  State.advance_of_pc_eq (t := t.setFlags f) h n

/-- ADD HL on each operand of table A (R141, R142). -/
theorem formPost_addHl (p : PairSel) (s : State) :
    formPost (.addHl p) s =
      { s.setPair .hl (s.getPair .hl + s.getSel p) with
        flags :=
          { z := s.flags.z, n := false
            h := decide ((s.getPair .hl).toNat % 4096 + (s.getSel p).toNat % 4096 > 4095)
            c := decide ((s.getPair .hl).toNat + (s.getSel p).toNat > 65535) }
        pc := s.pc + 1 } := by
  simp only [formPost, add16_eq]
  exact State.advance_setFlags (State.setPair_pc ..) _ _

theorem formPost_incReg (r : Reg8) (s : State) :
    formPost (.incReg r) s =
      { s.setReg r (s.getReg r + 1) with
        flags :=
          { z := decide (s.getReg r = 0xFF), n := false, h := decide ((s.getReg r).toNat % 16 = 15), c := s.flags.c }
        pc := s.pc + 1 } := by
  simp only [formPost, inc8_eq]
  exact State.advance_setFlags (State.setReg_pc ..) _ _

theorem formPost_decReg (r : Reg8) (s : State) :
    formPost (.decReg r) s =
      { s.setReg r (s.getReg r - 1) with
        flags :=
          { z := decide (s.getReg r = 1), n := true, h := decide ((s.getReg r).toNat % 16 = 0), c := s.flags.c }
        pc := s.pc + 1 } := by
  simp only [formPost, dec8_eq]
  exact State.advance_setFlags (State.setReg_pc ..) _ _

theorem formPost_incMem (s : State) :
    formPost .incMem s =
      { s.storeByte s.hl (s.byteAt s.hl + 1) with
        flags :=
          { z := decide (s.byteAt s.hl = 0xFF), n := false, h := decide ((s.byteAt s.hl).toNat % 16 = 15)
            c := s.flags.c }
        pc := s.pc + 1 } := by
  simp only [formPost, inc8_eq]
  exact State.advance_setFlags (State.storeByte_pc ..) _ _

theorem formPost_decMem (s : State) :
    formPost .decMem s =
      { s.storeByte s.hl (s.byteAt s.hl - 1) with
        flags :=
          { z := decide (s.byteAt s.hl = 1), n := true, h := decide ((s.byteAt s.hl).toNat % 16 = 0)
            c := s.flags.c }
        pc := s.pc + 1 } := by
  simp only [formPost, dec8_eq]
  exact State.advance_setFlags (State.storeByte_pc ..) _ _

theorem formPost_inc16 (p : PairSel) (s : State) :
    formPost (.inc16 p) s = { s.setSel p (s.getSel p + 1) with pc := s.pc + 1 } :=
  State.advance_of_pc_eq (State.setSel_pc ..) 1

theorem formPost_dec16 (p : PairSel) (s : State) :
    formPost (.dec16 p) s = { s.setSel p (s.getSel p - 1) with pc := s.pc + 1 } :=
  State.advance_of_pc_eq (State.setSel_pc ..) 1

/-! ### exec of a form that accesses no memory -/

/-- A form without an access completes in every state. -/
theorem exec_instr_of_no_access {f : Form} {s t : State} (hf : formPlain f = true) (ha : formAccesses f s = [])
    (ht : formPost f s = t) : exec f.instr s = .next t := by
  rw [exec_instr_outcome f s hf, ha, ht]
  rfl

end Sys2Proof.Machine
end

section
/-! PROOFS. The statements on 16-bit addition, increments and decrements (spec/41_add16_incdec.md). -/

namespace Sys2Proof.Machine

/-- Settles O31, by the state ADD HL leaves and the two bytes of the sum. -/
theorem addPairToHl : Obligations.AddPairToHl := by
  intro s p q hpq
  obtain ⟨hget, -⟩ := sel_eq_pair hpq s
  refine ⟨encode_addHl p, exec_instr_of_no_access rfl rfl ?_⟩
  rw [formPost_addHl, hget, State.setPair_hl_add]

/-- Settles O32, by the state INC r leaves. -/
theorem incrementRegister : Obligations.IncrementRegister :=
  fun s r => ⟨encode_incReg r, exec_instr_of_no_access rfl rfl (formPost_incReg r s)⟩

/-- Settles O33, by the state DEC r leaves. -/
theorem decrementRegister : Obligations.DecrementRegister :=
  fun s r => ⟨encode_decReg r, exec_instr_of_no_access rfl rfl (formPost_decReg r s)⟩

/-- Settles O34: the byte at HL is read and then written, so both accesses are mapped or the read faults. -/
theorem incrementDecrementMemory : Obligations.IncrementDecrementMemory := by
  intro s
  refine ⟨fun hm => ?mapped, fun hm => ?unmapped⟩
  case mapped =>
    have hall : ∀ e ∈ [(s.hl, Access.read), (s.hl, .write)], s.mapped e.1 = true := by simpa using hm
    rw [← formPost_incMem, ← formPost_decMem]
    exact ⟨exec_instr_of_mapped (f := .incMem) rfl hall, exec_instr_of_mapped (f := .decMem) rfl hall⟩
  case unmapped =>
    exact ⟨exec_instr_of_first_unmapped (f := .incMem) rfl rfl hm,
      exec_instr_of_first_unmapped (f := .decMem) rfl rfl hm⟩

/-- Settles O36: SP is an operand of table A like the pairs. -/
theorem stackPointerOperand : Obligations.StackPointerOperand :=
  fun s => ⟨exec_instr_of_no_access (f := .addHl .sp) rfl rfl (formPost_addHl .sp s),
    exec_instr_of_no_access (f := .inc16 .sp) rfl rfl (formPost_inc16 .sp s),
    exec_instr_of_no_access (f := .dec16 .sp) rfl rfl (formPost_dec16 .sp s)⟩

/-- Settles O35, by the state INC and DEC of an operand of table A leave. -/
theorem incrementDecrementPair : Obligations.IncrementDecrementPair := by
  intro s p q hpq
  obtain ⟨hget, hset⟩ := sel_eq_pair hpq s
  refine ⟨encode_inc16 p, encode_dec16 p, exec_instr_of_no_access rfl rfl ?_, exec_instr_of_no_access rfl rfl ?_⟩
  · rw [formPost_inc16, hget, hset]
  · rw [formPost_dec16, hget, hset]

end Sys2Proof.Machine
end

section
/-! PROOFS. Lemmas for the statements on the stack and control transfer (spec/42_stack_control.md): the outcome of a
list of accesses, a push and a pop byte by byte, and the transfers with their conditions. -/

namespace Sys2Proof.Machine

/-! ### The outcome of a list of accesses (R251) -/

theorem accessOutcome_cons_of_mapped {s : State} {x : Word} (h : s.mapped x = true) (t : State) (k : Access)
    (as : List (Word × Access)) : accessOutcome s t ((x, k) :: as) = accessOutcome s t as := by
  simp [accessOutcome, h]

theorem accessOutcome_cons_of_unmapped {s : State} {x : Word} (h : s.mapped x = false) (t : State) (k : Access)
    (as : List (Word × Access)) : accessOutcome s t ((x, k) :: as) = .fault (.busFault x k) := by
  simp [accessOutcome, h]

/-- Two accesses go on to those after them when both are mapped, and else the first unmapped one faults. -/
theorem accessOutcome_two (s t : State) (x y : Word) (k m : Access) (as : List (Word × Access)) :
    (s.mapped x = true → s.mapped y = true →
      accessOutcome s t ((x, k) :: (y, m) :: as) = accessOutcome s t as) ∧
    (s.mapped x = false → accessOutcome s t ((x, k) :: (y, m) :: as) = .fault (.busFault x k)) ∧
    (s.mapped x = true → s.mapped y = false →
      accessOutcome s t ((x, k) :: (y, m) :: as) = .fault (.busFault y m)) := by
  refine ⟨fun hx hy => ?_, fun hx => accessOutcome_cons_of_unmapped hx .., fun hx hy => ?_⟩
  · rw [accessOutcome_cons_of_mapped hx, accessOutcome_cons_of_mapped hy]
  · rw [accessOutcome_cons_of_mapped hx, accessOutcome_cons_of_unmapped hy]

/-! ### The push and the pop (R156, R157) -/

/-- The state after a push, with the two bytes of the value in plain arithmetic. -/
theorem State.pushed_eq (s : State) (v : Word) :
    s.pushed v =
      { (s.storeByte (s.sp - 1) (BitVec.ofNat 8 (v.toNat / 256))).storeByte (s.sp - 2) (BitVec.ofNat 8 v.toNat) with
        sp := s.sp - 2 } := by
  rw [State.pushed, highByte_eq, lowByte_eq]
  rfl

theorem push16_of_first_unmapped (s : State) (v : Word) (rest : State → Result) (h : s.mapped (s.sp - 1) = false) :
    push16 s v rest = .fault (.busFault (s.sp - 1) .write) := by
  rw [push16, memWrite_of_unmapped _ _ _ _ (by simpa using h)]
  rfl

theorem push16_of_second_unmapped (s : State) (v : Word) (rest : State → Result) (h1 : s.mapped (s.sp - 1) = true)
    (h2 : s.mapped (s.sp - 2) = false) : push16 s v rest = .fault (.busFault (s.sp - 2) .write) := by
  rw [push16, memWrite_of_mapped _ _ _ _ (by simpa using h1)]
  simp only [State.storeByte_sp, State.setSp_sp, Word.sub_one_sub_one]
  exact memWrite_of_unmapped _ _ _ _ (by simpa using h2)

theorem pop16_of_first_unmapped (s : State) (rest : Word → State → Result) (h : s.mapped s.sp = false) :
    pop16 s rest = .fault (.busFault s.sp .read) :=
  memRead_of_unmapped s s.sp .read _ h

theorem pop16_of_second_unmapped (s : State) (rest : Word → State → Result) (h1 : s.mapped s.sp = true)
    (h2 : s.mapped (s.sp + 1) = false) : pop16 s rest = .fault (.busFault (s.sp + 1) .read) := by
  rw [pop16, memRead_of_mapped _ _ _ _ h1]
  exact memRead_of_unmapped (s.setSp (s.sp + 1)) (s.sp + 1) .read _ (by simpa using h2)

/-- The word on top of the stack after a push is the word pushed (R169). -/
theorem State.stackTop_pushed (s : State) (v : Word) : (s.pushed v).stackTop = v := by
  simp only [State.stackTop, State.pushed_sp, State.byteAt_pushed, Word.sub_two_add_one, if_pos,
    if_neg (Word.sub_one_ne_sub_two s.sp), append_bytes]

theorem State.byteAt_pushed_of_ne (s : State) (v : Word) {x : Word} (h1 : x ≠ s.sp - 1) (h2 : x ≠ s.sp - 2) :
    (s.pushed v).byteAt x = s.byteAt x := by
  rw [State.byteAt_pushed, if_neg h2, if_neg h1]

/-- After a form that pushes, a form that pops finds its two bytes mapped: they are the bytes pushed (R169). -/
theorem exec_pop_of_exec_push {f g : Form} {s t : State} (hf : formPlain f = true) (hg : formPlain g = true)
    (hpush : (s.sp - 1, .write) ∈ formAccesses f s ∧ (s.sp - 2, .write) ∈ formAccesses f s)
    (hsp : (formPost f s).sp = s.sp - 2) (hpop : ∀ u, formAccesses g u = [(u.sp, .read), (u.sp + 1, .read)])
    (h : exec f.instr s = .next t) : t = formPost f s ∧ exec g.instr t = .next (formPost g t) := by
  rw [exec_instr_outcome f s hf] at h
  obtain ⟨rfl, hm⟩ := accessOutcome_next h
  obtain ⟨hhigh, hlow⟩ := hpush
  obtain ⟨hparams, -, -⟩ := formPost_fixed f s
  refine ⟨rfl, exec_instr_of_mapped hg ?_⟩
  rw [hpop, hsp, Word.sub_two_add_one]
  simpa [State.mapped_congr _ _ hparams] using And.intro (hm _ hlow) (hm _ hhigh)

/-! ### The states PUSH and POP leave (R158 to R161) -/

theorem encode_push (p : PairView) : encode (Form.push p).instr = [BitVec.ofNat 8 (0xC5 + 16 * p.sel)] := by
  cases p <;> rfl

theorem encode_pop (p : PairView) : encode (Form.pop p).instr = [BitVec.ofNat 8 (0xC1 + 16 * p.sel)] := by
  cases p <;> rfl

theorem formPost_push (p : PairView) (s : State) :
    formPost (.push p) s =
      { (s.storeByte (s.sp - 1) (BitVec.ofNat 8 ((s.getPair p).toNat / 256))).storeByte (s.sp - 2)
          (BitVec.ofNat 8 (s.getPair p).toNat) with
        sp := s.sp - 2, pc := s.pc + 1 } := by
  rw [formPost, State.advance_of_pc_eq (s.pushed_pc _), State.pushed_eq]

/-- POP of each pair, the two bytes of the stack written out; AF takes the four flags from the low one (R161). -/
theorem formPost_pop (p : PairView) (s : State) :
    formPost (.pop p) s =
      (let lo := s.byteAt s.sp
       let hi := s.byteAt (s.sp + 1)
       match p with
       | .bc => { s with b := hi, c := lo, sp := s.sp + 2, pc := s.pc + 1 }
       | .de => { s with d := hi, e := lo, sp := s.sp + 2, pc := s.pc + 1 }
       | .hl => { s with h := hi, l := lo, sp := s.sp + 2, pc := s.pc + 1 }
       | .af =>
         { s with
           a := hi
           flags := { z := lo.getLsbD 7, n := lo.getLsbD 6, h := lo.getLsbD 5, c := lo.getLsbD 4 }
           sp := s.sp + 2, pc := s.pc + 1 }) := by
  simp only [formPost, State.setPair, State.stackTop, BitVec.extractLsb'_append_eq_left,
    BitVec.extractLsb'_append_eq_right]
  cases p <;> rfl

theorem formPost_pop_sp (p : PairView) (s : State) : (formPost (.pop p) s).sp = s.sp + 2 := by
  simp [formPost]

theorem formPost_pop_getPair {p : PairView} (h : p ≠ .af) (s : State) :
    (formPost (.pop p) s).getPair p = s.stackTop := by
  rw [formPost, State.getPair_advance, State.getPair_setPair _ h]

/-- POP AF drops the low nibble of the word it pops (R161, R26). -/
theorem formPost_pop_getPair_af (s : State) : (formPost (.pop .af) s).getPair .af = s.stackTop &&& 0xFFF0 := by
  rw [formPost, State.getPair_advance, State.getPair_setPair_af]

/-! ### Transfers with a condition (R155) -/

/-- The four conditional rows and the unconditional row of a transfer do the same where it is taken, and the conditional
ones leave `skipped` where it is not. -/
theorem exec_transfer {always : Form} {onCond : Cond → Form} {s t skipped : State} {as : List (Word × Access)}
    (halways : exec always.instr s = accessOutcome s t as)
    (hcond : ∀ cc, exec (onCond cc).instr s = if condHolds cc s.flags then accessOutcome s t as else .next skipped)
    {i : Instr} {taken : Bool}
    (h : (i, taken) ∈ [(always.instr, true), ((onCond .nz).instr, !s.flags.z), ((onCond .z).instr, s.flags.z),
      ((onCond .nc).instr, !s.flags.c), ((onCond .c).instr, s.flags.c)]) :
    exec i s = if taken then accessOutcome s t as else .next skipped := by
  simp only [List.mem_cons, Prod.mk.injEq, List.not_mem_nil, or_false] at h
  rcases h with ⟨rfl, rfl⟩ | ⟨rfl, rfl⟩ | ⟨rfl, rfl⟩ | ⟨rfl, rfl⟩ | ⟨rfl, rfl⟩
  · exact halways
  · exact hcond .nz
  · exact hcond .z
  · exact hcond .nc
  · exact hcond .c

theorem exec_jpCc (cc : Cond) (s : State) :
    exec (Form.jpCc cc).instr s =
      if condHolds cc s.flags then
        accessOutcome s (s.setPc (s.operand16 s.pc)) [(s.pc + 1, .fetch), (s.pc + 2, .fetch)]
      else .next (s.advance 3) := by
  simp only [exec_instr_outcome (.jpCc cc) s rfl, formPost, formAccesses]
  split <;> rfl

theorem exec_callCc (cc : Cond) (s : State) :
    exec (Form.callCc cc).instr s =
      if condHolds cc s.flags then
        accessOutcome s s.called
          [(s.sp - 1, .write), (s.sp - 2, .write), (s.pc + 1, .fetch), (s.pc + 2, .fetch)]
      else .next (s.advance 3) := by
  simp only [exec_instr_outcome (.callCc cc) s rfl, formPost, formAccesses]
  split <;> rfl

theorem exec_retCc (cc : Cond) (s : State) :
    exec (Form.retCc cc).instr s =
      if condHolds cc s.flags then accessOutcome s s.returned [(s.sp, .read), (s.sp + 1, .read)]
      else .next (s.advance 1) := by
  simp only [exec_instr_outcome (.retCc cc) s rfl, formPost, formAccesses]
  split <;> rfl

/-- The opcode bytes of RET and RET cc, whatever the conditions say. -/
theorem encode_ret {i : Instr} {op : Byte} {taken z c : Bool}
    (h : (i, op, taken) ∈ [(.ret, 0xC9, true), (.ret_NZ, 0xC0, !z), (.ret_Z, 0xC8, z), (.ret_NC, 0xD0, !c),
      (Instr.ret_C, (0xD8 : Byte), c)]) : encode i = [op] := by
  simp only [List.mem_cons, Prod.mk.injEq, List.not_mem_nil, or_false] at h
  rcases h with ⟨rfl, rfl, -⟩ | ⟨rfl, rfl, -⟩ | ⟨rfl, rfl, -⟩ | ⟨rfl, rfl, -⟩ | ⟨rfl, rfl, -⟩ <;> rfl

/-! ### The frame of a push -/

/-- A form that may push writes the two bytes below SP and no other (R156). -/
theorem formPost_byteAt_of_pushes {f : Form} (h : formPushes f = true) {s : State} {x : Word} (h1 : x ≠ s.sp - 1)
    (h2 : x ≠ s.sp - 2) : (formPost f s).byteAt x = s.byteAt x := by
  have hpush := fun v => s.byteAt_pushed_of_ne v h1 h2
  cases f with
  | push p => simp [formPost, hpush]
  | call => simp [formPost, State.called, hpush]
  | callCc cc => simp only [formPost]; split <;> simp [State.called, hpush]
  | _ => exact nomatch h

/-- A form that may push writes no register and no flag, and is not HALT. -/
theorem formPushes_frame {f : Form} (h : formPushes f = true) :
    formDests f = [] ∧ formWritesFlags f = false ∧ f ≠ .halt := by
  cases f with
  | push | call | callCc => exact ⟨rfl, rfl, Form.noConfusion⟩
  | _ => exact nomatch h

end Sys2Proof.Machine
end

section
/-! PROOFS. The statements on the stack and control transfer (spec/42_stack_control.md). -/

namespace Sys2Proof.Machine

/-- Settles O37: both accesses of a push or a pop are mapped, or the first unmapped one faults. -/
theorem stackOperations : Obligations.StackOperations := by
  constructor
  · intro s v rest
    rw [← State.pushed_eq]
    exact ⟨push16_of_mapped s v rest, push16_of_first_unmapped s v rest, push16_of_second_unmapped s v rest⟩
  · intro s rest
    exact ⟨pop16_of_mapped s rest, pop16_of_first_unmapped s rest, pop16_of_second_unmapped s rest⟩

/-- Settles O38, by the two accesses of PUSH and the state it leaves. -/
theorem pushWritesHighThenLow : Obligations.PushWritesHighThenLow := by
  intro s p
  rw [exec_instr_outcome (.push p) s rfl, formPost_push]
  exact ⟨encode_push p, accessOutcome_two ..⟩

/-- Settles O39, by the two accesses of POP and the state it leaves. -/
theorem popReadsLowThenHigh : Obligations.PopReadsLowThenHigh := by
  intro s p
  rw [exec_instr_outcome (.pop p) s rfl, formPost_pop]
  exact ⟨encode_pop p, accessOutcome_two ..⟩

/-- Settles O40: the pop finds the pushed word on top of the stack and writes it to its pair. -/
theorem pushThenPopRoundTrip : Obligations.PushThenPopRoundTrip := by
  intro s t p q h
  obtain ⟨rfl, hpop⟩ := exec_pop_of_exec_push (f := .push p) (g := .pop q) rfl rfl (by simp [formAccesses]) rfl
    (fun _ => rfl) h
  have htop : (formPost (.push p) s).stackTop = s.getPair p := s.stackTop_pushed _
  have hsp : (formPost (.push p) s).sp + 2 = s.sp := Word.sub_two_add_two s.sp
  refine ⟨_, hpop, (formPost_pop_sp q _).trans hsp, fun hq => (formPost_pop_getPair hq _).trans htop, ?_⟩
  rintro rfl
  rw [formPost_pop_getPair_af, htop]

/-- Settles O41: a jump taken reads the two bytes of its operand, a jump not taken none. -/
theorem jumpToOperand : Obligations.JumpToOperand := by
  intro s i taken hi
  rw [exec_transfer (always := .jp) (exec_instr_outcome .jp s rfl) (exec_jpCc · s) hi]
  obtain ⟨hnext, hfirst, hsecond⟩ :=
    accessOutcome_two s (s.setPc (s.operand16 s.pc)) (s.pc + 1) (s.pc + 2) .fetch .fetch []
  refine ⟨?_, ?_, ?_, ?_⟩ <;> rintro rfl
  exacts [hnext, rfl, hfirst, hsecond]

/-- Settles O42: a call taken makes its two writes and then reads the two bytes of its operand. -/
theorem callPushesThenReadsTarget : Obligations.CallPushesThenReadsTarget := by
  intro s i taken hi pushed
  have hcalled : s.called = { pushed with pc := pushed.byteAt (s.pc + 2) ++ pushed.byteAt (s.pc + 1) } := by
    rw [State.called, State.pushed_eq]
    rfl
  rw [exec_transfer (always := .call) (exec_instr_outcome .call s rfl) (exec_callCc · s) hi, ← hcalled]
  obtain ⟨hwrites, hwrite1, hwrite2⟩ := accessOutcome_two s s.called (s.sp - 1) (s.sp - 2) .write .write
    [(s.pc + 1, .fetch), (s.pc + 2, .fetch)]
  obtain ⟨hreads, hread1, hread2⟩ := accessOutcome_two s s.called (s.pc + 1) (s.pc + 2) .fetch .fetch []
  refine ⟨?_, ?_, ?_, ?_, ?_, ?_⟩ <;> rintro rfl
  · rfl
  · exact fun h1 h2 h3 h4 => (hwrites h1 h2).trans (hreads h3 h4)
  · exact hwrite1
  · exact hwrite2
  · exact fun h1 h2 h3 => (hwrites h1 h2).trans (hread1 h3)
  · exact fun h1 h2 h3 h4 => (hwrites h1 h2).trans (hread2 h3 h4)

/-- Settles O43: a return taken pops the word on the stack, a return not taken reads nothing. -/
theorem returnToPoppedWord : Obligations.ReturnToPoppedWord := by
  intro s i op taken hi
  have hi' := List.mem_map_of_mem (f := fun e : Instr × Byte × Bool => (e.1, e.2.2)) hi
  rw [exec_transfer (always := .ret) (exec_instr_outcome .ret s rfl) (exec_retCc · s) hi']
  obtain ⟨hnext, hfirst, hsecond⟩ := accessOutcome_two s s.returned s.sp (s.sp + 1) .read .read []
  refine ⟨encode_ret hi, ?_, ?_, ?_, ?_⟩ <;> rintro rfl
  exacts [hnext, rfl, hfirst, hsecond]

/-- Settles O44: the return pops the word the call pushed. -/
theorem callThenReturn : Obligations.CallThenReturn := by
  intro s t h
  obtain ⟨rfl, hret⟩ := exec_pop_of_exec_push (f := .call) (g := .ret) rfl rfl (by simp [formAccesses]) rfl
    (fun _ => rfl) h
  exact ⟨s.called.returned, hret, s.stackTop_pushed (s.pc + 3), Word.sub_two_add_two s.sp⟩

/-- Settles O54, by the registers, flags, latches and memory of the state a form that may push leaves. -/
theorem pushFrame : Obligations.PushFrame := by
  intro i s t hi h
  have hne : i ≠ .prefix_CB := by rintro rfl; exact nomatch hi
  rcases exec_next_plain hne h with ⟨-, rfl, -⟩ | ⟨-, rfl⟩
  · obtain ⟨hdests, hflags, hhalt⟩ := formPushes_frame hi
    obtain ⟨-, hfaulted, hhalted⟩ := formPost_fixed i.form s
    refine ⟨fun x => formPost_byteAt_of_pushes hi, fun r => formPost_getReg_of_notMem (by simp [hdests]) s,
      formPost_flags_of_not_writesFlags hflags s, ?_, hfaulted⟩
    simpa [hhalt] using hhalted
  · exact ⟨fun _ _ _ => rfl, fun _ => rfl, rfl, rfl, rfl⟩

end Sys2Proof.Machine
end

section
/-! PROOFS. Lemmas for the statements on the byte loads and the stores at HL (spec/43_load.md): the opcode byte of each
form, the state it leaves, and what a store leaves of the tile set. -/

namespace Sys2Proof.Machine

/-! ### Opcode bytes (R91) -/

theorem encode_ldReg (dst r : Reg8) :
    encode (Form.ldReg dst r).instr = [BitVec.ofNat 8 (0x40 + 8 * dst.sel + r.sel)] := by
  cases dst <;> cases r <;> rfl

theorem encode_ldImm (dst : Reg8) : encode (Form.ldImm dst).instr = [BitVec.ofNat 8 (0x06 + 8 * dst.sel)] := by
  cases dst <;> rfl

theorem encode_ldMem (dst : Reg8) : encode (Form.ldMem dst).instr = [BitVec.ofNat 8 (0x46 + 8 * dst.sel)] := by
  cases dst <;> rfl

theorem encode_stReg (r : Reg8) : encode (Form.stReg r).instr = [BitVec.ofNat 8 (0x70 + r.sel)] := by
  cases r <;> rfl

/-! ### The state a load or a store leaves (R175 to R179) -/

theorem State.advance_setReg (s : State) (r : Reg8) (v : Byte) (n : Word) :
    (s.setReg r v).advance n = { s.setReg r v with pc := s.pc + n } :=
  State.advance_of_pc_eq (State.setReg_pc ..) n

theorem State.advance_storeByte (s : State) (x : Word) (v : Byte) (n : Word) :
    (s.storeByte x v).advance n = { s.storeByte x v with pc := s.pc + n } :=
  State.advance_of_pc_eq (State.storeByte_pc ..) n

/-! ### exec of a form with one access or two (R251) -/

/-- A form with one access completes or faults there. -/
theorem exec_instr_of_one_access {f : Form} {s t : State} {x : Word} {k : Access} (hf : formPlain f = true)
    (ha : formAccesses f s = [(x, k)]) (ht : formPost f s = t) :
    (s.mapped x = true → exec f.instr s = .next t) ∧
    (s.mapped x = false → exec f.instr s = .fault (.busFault x k)) := by
  rw [exec_instr_outcome f s hf, ha, ht]
  exact ⟨fun hm => accessOutcome_cons_of_mapped hm .., fun hm => accessOutcome_cons_of_unmapped hm ..⟩

/-- A form with two accesses completes or faults at the first unmapped one. -/
theorem exec_instr_of_two_accesses {f : Form} {s t : State} {x y : Word} {k m : Access} (hf : formPlain f = true)
    (ha : formAccesses f s = [(x, k), (y, m)]) (ht : formPost f s = t) :
    (s.mapped x = true → s.mapped y = true → exec f.instr s = .next t) ∧
    (s.mapped x = false → exec f.instr s = .fault (.busFault x k)) ∧
    (s.mapped x = true → s.mapped y = false → exec f.instr s = .fault (.busFault y m)) := by
  rw [exec_instr_outcome f s hf, ha, ht]
  exact accessOutcome_two ..

/-! ### The frame of a store (R235, R236) -/

/-- A store leaves every tile row but the one its byte lies in. -/
theorem State.tileRowAt_storeByte_of_ne (s : State) {x : Word} {n r : Nat} (hr : r < 8)
    (h : ¬ (x.toNat < 0x9800 ∧ 0x8000 ≤ x.toNat ∧ n = (x.toNat - 0x8000) / 16 ∧ r = (x.toNat - 0x8000) % 16 / 2))
    (v : Byte) : (s.storeByte x v).tileRowAt n r = s.tileRowAt n r := by
  cases hv : inVideo x with
  | true =>
    have hlo := ((inVideo_eq_true x).mp hv).1
    rw [s.storeByte_of_inVideo hv, State.tileRowAt_videoWrite _ _ _ _ _ hr, if_neg (by omega)]
  | false =>
    rw [s.storeByte_of_not_inVideo hv]
    rfl

/-- Beside its store at HL, a form that stores there writes the flags and PC alone. -/
theorem formPost_of_storesAtHl {f : Form} (h : formStoresAtHl f = true) (s : State) :
    ∃ v fl n, formPost f s = ((s.storeByte s.hl v).setFlags fl).advance n := by
  cases f with
  | incMem | decMem | shiftMem k => exact ⟨_, _, _, rfl⟩
  | stReg | stImm | resMem | setMem => exact ⟨_, (s.storeByte s.hl _).flags, _, rfl⟩
  | _ => exact nomatch h

theorem formPlain_of_storesAtHl {f : Form} (h : formStoresAtHl f = true) : formPlain f = true := by
  cases f with
  | prefixByte | unrecognized => exact nomatch h
  | _ => rfl

/-- All an instruction that stores at HL can do when it answers a next state. -/
theorem exec_next_of_storesAtHl {i : Instr} {s t : State} (hi : formStoresAtHl i.form = true)
    (h : exec i s = .next t) : ∃ v fl n, t = ((s.storeByte s.hl v).setFlags fl).advance n := by
  rw [exec_eq_runForm] at h
  obtain ⟨rfl, -⟩ := runForm_next (formPlain_of_storesAtHl hi) h
  exact formPost_of_storesAtHl hi s

end Sys2Proof.Machine
end

section
/-! PROOFS. The statements on the byte loads and the stores at HL (spec/43_load.md). -/

namespace Sys2Proof.Machine

/-- Settles O45: a load from a register accesses no memory, the two others read their source byte alone. -/
theorem loadIntoRegister : Obligations.LoadIntoRegister := by
  intro s dst r
  have hreg := exec_instr_of_no_access (f := .ldReg dst r) rfl rfl (s.advance_setReg dst (s.getReg r) 1)
  obtain ⟨himm, himmFault⟩ :=
    exec_instr_of_one_access (f := .ldImm dst) rfl rfl (s.advance_setReg dst (s.byteAt (s.pc + 1)) 2)
  obtain ⟨hmem, hmemFault⟩ :=
    exec_instr_of_one_access (f := .ldMem dst) rfl rfl (s.advance_setReg dst (s.byteAt s.hl) 1)
  exact ⟨encode_ldReg dst r, encode_ldImm dst, encode_ldMem dst, hreg, himm, himmFault, hmem, hmemFault⟩

/-- Settles O46: a store from a register writes at HL alone, a store of the immediate fetches it first. -/
theorem storeToMemoryAtHl : Obligations.StoreToMemoryAtHl := by
  intro s r
  obtain ⟨hreg, hregFault⟩ :=
    exec_instr_of_one_access (f := .stReg r) rfl rfl (s.advance_storeByte s.hl (s.getReg r) 1)
  have himm := exec_instr_of_two_accesses (f := .stImm) rfl rfl (s.advance_storeByte s.hl (s.byteAt (s.pc + 1)) 2)
  exact ⟨encode_stReg r, rfl, hreg, hregFault, himm⟩

/-- Settles O53: the instruction stores one byte at the old HL and writes beside it the flags and PC alone. -/
theorem storeAtHlFrame : Obligations.StoreAtHlFrame := by
  intro i s t hi h
  obtain ⟨v, fl, n, rfl⟩ := exec_next_of_storesAtHl hi h
  refine ⟨fun x hx => ?bytes, fun n r _ hr hrow => ?tiles, ?_, ?_, ?_, ?_⟩
  case bytes => simp [State.byteAt_storeByte, hx]
  case tiles => simpa using s.tileRowAt_storeByte_of_ne hr hrow v
  all_goals simp

end Sys2Proof.Machine
end

section
/-! PROOFS. The statement on NOP and HALT (spec/44_misc.md R185, R186). -/

namespace Sys2Proof.Machine

theorem exec_nop (s : State) : exec .nop s = .next { s with pc := s.pc + 1 } :=
  exec_instr_of_no_access (f := .nop) rfl rfl rfl

theorem exec_halt (s : State) : exec .halt s = .next { s with halted := true, pc := s.pc + 1 } :=
  exec_instr_of_no_access (f := .halt) rfl rfl rfl

/-- R267: without a host write between the steps, a run of a halted machine stays where it is. -/
theorem run_of_halted {s : State} (hf : s.faulted = false) (hh : s.halted = true) (n : Nat) :
    Sys2Proof.core.run n s = .next s :=
  run_of_step_self (step_of_halted hf hh) n

/-- Settles O47: neither row accesses memory, and a step of the state HALT leaves is inert. -/
theorem nopAndHalt : Obligations.NopAndHalt := by
  intro s
  refine ⟨exec_nop s, exec_halt s, fun hf t ht n => ?_⟩
  obtain ⟨-, hfaulted⟩ := exec_params_faulted ht
  have hhalted : t.halted = true := by simp [exec_halted ht]
  exact run_of_halted (hfaulted.trans hf) hhalted n

end Sys2Proof.Machine
end

section
/-! PROOFS. The statement on the accumulator rotates (spec/45_rotate_a.md R190 to R193). -/

namespace Sys2Proof.Machine

/-- The shift of R201 that each accumulator rotate performs. -/
def rotAShift : RotA → ShiftKind
  | .rlca => .rlc
  | .rrca => .rrc
  | .rla => .rl
  | .rra => .rr

theorem rotA8_eq (k : RotA) (v : Byte) (f : Flags) :
    rotA8 k v f = ((shift8 (rotAShift k) v f.c).1,
      { z := false, n := false, h := false, c := (shift8 (rotAShift k) v f.c).2 }) := by
  cases k <;> rfl

theorem exec_rotA {k : RotA} {s : State} {w : Byte} {out : Bool}
    (h : shift8 (rotAShift k) s.a s.flags.c = (w, out)) :
    exec (Form.rotA k).instr s = .next
      { s with a := w, flags := { z := false, n := false, h := false, c := out }, pc := s.pc + 1 } := by
  refine exec_instr_of_no_access rfl rfl ?_
  rw [formPost, rotA8_eq, h]
  rfl

/-- Settles O48: no accumulator rotate accesses memory, and each takes its result and carry from one kind of shift. -/
theorem accumulatorRotates : Obligations.AccumulatorRotates := fun s =>
  have hshift (k : RotA) := shift8_eq (rotAShift k) s.a s.flags.c
  ⟨exec_rotA (hshift .rlca), exec_rotA (hshift .rrca), exec_rotA (hshift .rla), exec_rotA (hshift .rra)⟩

end Sys2Proof.Machine
end

section
/-! PROOFS. Lemmas for the statements on the secondary space (spec/46_cb_prefixed.md): the opcode bytes of each form,
RES and SET as one write of a bit, and exec of a form that reads the byte at HL and writes it back. -/

namespace Sys2Proof.Machine

/-! ### RES and SET as one write (R220, R222) -/

/-- The form of RES b or SET b on a register: bit `b` is written with `on`. -/
def bitWriteReg (on : Bool) (b : BitIdx) (r : Reg8) : Form := if on then .setReg b r else .resReg b r

/-- The form of RES b or SET b on the byte at HL. -/
def bitWriteMem (on : Bool) (b : BitIdx) : Form := if on then .setMem b else .resMem b

/-- The byte with bit `b` written with `on`. -/
def writeBit (on : Bool) (b : BitIdx) (v : Byte) : Byte := if on then setBit b v else resBit b v

theorem getLsbD_writeBit (on : Bool) (b : BitIdx) (v : Byte) (k : Nat) (hk : k < 8) :
    (writeBit on b v).getLsbD k = if k = b.num then on else v.getLsbD k := by
  cases on with
  | false => exact getLsbD_resBit b v k hk
  | true => exact getLsbD_setBit b v k hk

/-! ### Opcode bytes (R95) -/

theorem encode_shiftReg (k : ShiftKind) (r : Reg8) :
    encode (Form.shiftReg k r).instr = [0xCB, BitVec.ofNat 8 (8 * k.sel + r.sel)] := by
  cases k <;> cases r <;> rfl

theorem encode_shiftMem (k : ShiftKind) :
    encode (Form.shiftMem k).instr = [0xCB, BitVec.ofNat 8 (8 * k.sel + 6)] := by
  cases k <;> rfl

theorem encode_bitReg (b : BitIdx) (r : Reg8) :
    encode (Form.bitReg b r).instr = [0xCB, BitVec.ofNat 8 (0x40 + 8 * b.num + r.sel)] := by
  cases b <;> cases r <;> rfl

theorem encode_bitMem (b : BitIdx) :
    encode (Form.bitMem b).instr = [0xCB, BitVec.ofNat 8 (0x46 + 8 * b.num)] := by
  cases b <;> rfl

theorem encode_bitWriteReg (on : Bool) (b : BitIdx) (r : Reg8) :
    encode (bitWriteReg on b r).instr =
      [0xCB, BitVec.ofNat 8 ((if on then 0xC0 else 0x80) + 8 * b.num + r.sel)] := by
  cases on <;> cases b <;> cases r <;> rfl

theorem encode_bitWriteMem (on : Bool) (b : BitIdx) :
    encode (bitWriteMem on b).instr = [0xCB, BitVec.ofNat 8 ((if on then 0xC0 else 0x80) + 8 * b.num + 6)] := by
  cases on <;> cases b <;> rfl

/-! ### The result and the flags -/

/-- Z of BIT in plain arithmetic (R218). -/
theorem bitFlags_eq (b : BitIdx) (v : Byte) (f : Flags) :
    bitFlags b v f = { z := decide (v.toNat / 2 ^ b.num % 2 = 0), n := false, h := true, c := f.c } := by
  have hbit : (!v.getLsbD b.num) = decide (v.toNat / 2 ^ b.num % 2 = 0) := by
    rw [BitVec.getLsbD, Nat.testBit_eq_decide_div_mod_eq, ← decide_not, decide_eq_decide]
    omega
  rw [bitFlags, hbit]

theorem shiftFlags_of_shift8 {k : ShiftKind} {v w : Byte} {f : Flags} {out : Bool} (h : shift8 k v f.c = (w, out)) :
    shiftFlags k v f = (w, { z := decide (w = 0), n := false, h := false, c := out }) := by
  simp only [shiftFlags, h]

/-! ### exec of the forms (R200, R220) -/

/-- A form that reads the byte at HL and writes it back completes or faults at the read. -/
theorem exec_instr_of_hl_read_write {f : Form} {s t : State} (hf : formPlain f = true)
    (ha : formAccesses f s = [(s.hl, .read), (s.hl, .write)]) (ht : formPost f s = t) :
    (s.mapped s.hl = true → exec f.instr s = .next t) ∧
    (s.mapped s.hl = false → exec f.instr s = .fault (.busFault s.hl .read)) := by
  obtain ⟨hnext, hfault, -⟩ := exec_instr_of_two_accesses hf ha ht
  exact ⟨fun hm => hnext hm hm, hfault⟩

theorem exec_shiftReg {k : ShiftKind} {r : Reg8} {s : State} {w : Byte} {fl : Flags}
    (h : shiftFlags k (s.getReg r) s.flags = (w, fl)) :
    exec (Form.shiftReg k r).instr s = .next { s.setReg r w with flags := fl, pc := s.pc + 2 } := by
  refine exec_instr_of_no_access rfl rfl ?_
  rw [formPost, h]
  exact State.advance_setFlags (State.setReg_pc ..) fl 2

theorem exec_shiftMem {k : ShiftKind} {s : State} {w : Byte} {fl : Flags}
    (h : shiftFlags k (s.byteAt s.hl) s.flags = (w, fl)) :
    (s.mapped s.hl = true →
      exec (Form.shiftMem k).instr s = .next { s.storeByte s.hl w with flags := fl, pc := s.pc + 2 }) ∧
    (s.mapped s.hl = false → exec (Form.shiftMem k).instr s = .fault (.busFault s.hl .read)) := by
  refine exec_instr_of_hl_read_write rfl rfl ?_
  rw [formPost, h]
  exact State.advance_setFlags (State.storeByte_pc ..) fl 2

theorem exec_bitWriteReg (on : Bool) (b : BitIdx) (r : Reg8) (s : State) :
    exec (bitWriteReg on b r).instr s =
      .next { s.setReg r (writeBit on b (s.getReg r)) with pc := s.pc + 2 } := by
  cases on <;> exact exec_instr_of_no_access rfl rfl (s.advance_setReg r _ 2)

theorem exec_bitWriteMem (on : Bool) (b : BitIdx) (s : State) :
    (s.mapped s.hl = true →
      exec (bitWriteMem on b).instr s =
        .next { s.storeByte s.hl (writeBit on b (s.byteAt s.hl)) with pc := s.pc + 2 }) ∧
    (s.mapped s.hl = false → exec (bitWriteMem on b).instr s = .fault (.busFault s.hl .read)) := by
  cases on <;> exact exec_instr_of_hl_read_write rfl rfl (s.advance_storeByte s.hl _ 2)

end Sys2Proof.Machine
end

section
/-! PROOFS. The statements on the secondary space (spec/46_cb_prefixed.md). -/

namespace Sys2Proof.Machine

/-- Settles O49: each kind does the same with a register and with the byte at HL, which it reads and writes back. -/
theorem secondaryShifts : Obligations.SecondaryShifts := by
  intro s k result out after
  have hshift (v : Byte) : shiftFlags k v s.flags = (result v, after v) := by
    refine shiftFlags_of_shift8 ((shift8_eq k v s.flags.c).trans ?_)
    cases k <;> rfl
  exact ⟨fun r => ⟨encode_shiftReg k r, exec_shiftReg (hshift _)⟩, encode_shiftMem k, exec_shiftMem (hshift _)⟩

/-- Settles O50: BIT reads its operand and writes the flags and PC alone. -/
theorem bitTest : Obligations.BitTest := by
  intro s b post
  have hpost (v : Byte) : (s.setFlags (bitFlags b v s.flags)).advance 2 = post v := by
    rw [bitFlags_eq]
    rfl
  exact ⟨fun r => ⟨encode_bitReg b r, exec_instr_of_no_access rfl rfl (hpost _)⟩, encode_bitMem b,
    exec_instr_of_one_access rfl rfl (hpost _)⟩

/-- Settles O51: RES and SET write one bit of a register or of the byte at HL, and no flag. -/
theorem bitResetAndSet : Obligations.BitResetAndSet := by
  intro s b on regForm memForm base good
  obtain ⟨hmem, hmemFault⟩ := exec_bitWriteMem on b s
  exact ⟨fun r => ⟨encode_bitWriteReg on b r, _, getLsbD_writeBit on b _, exec_bitWriteReg on b r s⟩,
    encode_bitWriteMem on b, fun hm => ⟨_, getLsbD_writeBit on b _, hmem hm⟩, hmemFault⟩

end Sys2Proof.Machine
end

section
/-! PROOFS. Lemmas for the statements on the video device and the invariant (spec/50_video_device.md R231 to R245): what
the state left by a form keeps of the invariant, what an action of the host can do, and where an offset of video memory
stands on the bus. -/

namespace Sys2Proof.Machine

/-! ### The invariant in the state left by a form (R239) -/

theorem formPost_Inv_of_storesNothing {f : Form} {s : State} (h : formStoresNothing f = true) (hs : s.Inv) :
    (formPost f s).Inv := by
  obtain ⟨hvram, htiles, hhost⟩ := formPost_memory_of_storesNothing h s
  obtain ⟨hparams, -, -⟩ := formPost_fixed f s
  exact State.Inv_congr s _ hvram htiles hhost hparams hs

/-- A form that stores at HL accesses the byte there. -/
theorem hl_mem_formAccesses_of_storesAtHl {f : Form} (h : formStoresAtHl f = true) (s : State) :
    (s.hl, .write) ∈ formAccesses f s := by
  cases f with
  | incMem | decMem | stReg | stImm | shiftMem | resMem | setMem => simp [formAccesses]
  | _ => exact nomatch h

theorem formPost_Inv_of_storesAtHl {f : Form} {s : State} (h : formStoresAtHl f = true)
    (hm : ∀ e ∈ formAccesses f s, s.mapped e.1 = true) (hs : s.Inv) : (formPost f s).Inv := by
  obtain ⟨v, fl, n, hpost⟩ := formPost_of_storesAtHl h s
  have hstore := s.Inv_storeByte s.hl v (hm _ (hl_mem_formAccesses_of_storesAtHl h s)) hs
  rw [hpost]
  exact State.Inv_congr (s.storeByte s.hl v) _ rfl rfl rfl rfl hstore

theorem State.Inv_called {s : State} (hhigh : s.mapped (s.sp - 1) = true) (hlow : s.mapped (s.sp - 2) = true)
    (hs : s.Inv) : s.called.Inv :=
  State.Inv_congr (s.pushed (s.pc + 3)) _ rfl rfl rfl rfl (s.Inv_pushed _ hhigh hlow hs)

theorem formPost_Inv_of_pushes {f : Form} {s : State} (h : formPushes f = true)
    (hm : ∀ e ∈ formAccesses f s, s.mapped e.1 = true) (hs : s.Inv) : (formPost f s).Inv := by
  cases f with
  | push p =>
    have hpush := s.Inv_pushed (s.getPair p) (hm (s.sp - 1, .write) (by simp [formAccesses]))
      (hm (s.sp - 2, .write) (by simp [formAccesses])) hs
    exact State.Inv_congr (s.pushed (s.getPair p)) _ rfl rfl rfl rfl hpush
  | call =>
    exact State.Inv_called (hm (s.sp - 1, .write) (by simp [formAccesses]))
      (hm (s.sp - 2, .write) (by simp [formAccesses])) hs
  | callCc cc =>
    by_cases hc : condHolds cc s.flags = true
    · simp only [formPost, if_pos hc]
      exact State.Inv_called (hm (s.sp - 1, .write) (by simp [formAccesses, hc]))
        (hm (s.sp - 2, .write) (by simp [formAccesses, hc])) hs
    · simp only [formPost, if_neg hc]
      exact State.Inv_congr s _ rfl rfl rfl rfl hs
  | _ => exact nomatch h

/-- A form stores at HL, pushes, or leaves memory alone; each keeps the invariant where its accesses are mapped. -/
theorem formPost_Inv {f : Form} {s : State} (hf : formPlain f = true)
    (hm : ∀ e ∈ formAccesses f s, s.mapped e.1 = true) (hs : s.Inv) : (formPost f s).Inv := by
  by_cases hstore : formStoresAtHl f = true
  · exact formPost_Inv_of_storesAtHl hstore hm hs
  by_cases hpush : formPushes f = true
  · exact formPost_Inv_of_pushes hpush hm hs
  · have hne : f ≠ .prefixByte := by rintro rfl; exact nomatch hf
    exact formPost_Inv_of_storesNothing (by simp [formStoresNothing, hstore, hpush, hne]) hs

theorem exec_Inv {i : Instr} {s t : State} (h : exec i s = .next t) (hs : s.Inv) : t.Inv := by
  rcases exec_next h with ⟨f, hf, rfl, hm, -⟩ | ⟨-, rfl⟩
  · exact formPost_Inv hf hm hs
  · exact hs

/-! ### The invariant at a launch (R245, R280) -/

/-- An empty tile set is consistent with empty video memory: a row of two zero bytes is blank (R245). -/
theorem State.tilesConsistent_of_empty {s : State} (hv : s.vram = []) (ht : s.tiles = []) : s.tilesConsistent := by
  intro t _ r _
  simp only [State.tileRowAt, State.videoRead, hv, ht, sparseGet]
  decide

/-- A launch meets the invariant if the host's image is canonical and lists what the host owns. -/
theorem State.Inv_launch {params : Params} {image : List Host.Cell} (i : LaunchState) (hwf : memWf image = true)
    (howned : ∀ e ∈ image, e.1 < 0x10000 ∧ hostOwns params (BitVec.ofNat 16 e.1) = true) :
    (State.launch params image i).Inv :=
  ⟨⟨rfl, hwf, rfl, fun _ he => absurd he List.not_mem_nil, fun _ he => absurd he List.not_mem_nil, howned⟩,
    State.tilesConsistent_of_empty rfl rfl⟩

/-- A later reset leaves the host's memory and the parameters in place, so it is a launch with that image. -/
theorem State.Inv_resetAgain {s : State} (hs : s.Inv) : s.resetAgain.Inv := by
  obtain ⟨⟨-, hwf, -, -, -, howned⟩, -⟩ := hs
  exact State.Inv_launch launchDefault hwf howned

/-! ### Video memory on the bus (R51, R231) -/

theorem inVideo_of_toNat_eq {x : Word} {o : Nat} (ho : o ≤ 0x1FFF) (hx : x.toNat = 0x8000 + o) : inVideo x = true :=
  (inVideo_eq_true x).mpr (by omega)

/-- The bus at 0x8000 + offset is the device's own read and write. -/
theorem State.bus_eq_video (s : State) {x : Word} {o : Nat} (ho : o ≤ 0x1FFF) (hx : x.toNat = 0x8000 + o) (v : Byte) :
    s.storeByte x v = s.videoWrite o v ∧ s.byteAt x = s.videoRead o := by
  have hv := inVideo_of_toNat_eq ho hx
  have hoff : x.toNat - 0x8000 = o := by omega
  rw [s.storeByte_of_inVideo hv, s.byteAt_of_inVideo hv, hoff]
  exact ⟨rfl, rfl⟩

theorem hostVideoWrite_of_le {o : Nat} (ho : o ≤ 0x1FFF) (v : Byte) (s : State) :
    hostVideoWrite o v s = .next (s.videoWrite o v) := if_pos ho

theorem hostVideoWrite_of_gt {o : Nat} (ho : 0x1FFF < o) (v : Byte) (s : State) :
    hostVideoWrite o v s = .refused (.videoOffset o) := if_neg (Nat.not_le.mpr ho)

theorem hostVideoRead_of_le (s : State) {o : Nat} (ho : o ≤ 0x1FFF) : hostVideoRead s o = some (s.videoRead o) :=
  if_pos ho

theorem hostVideoRead_of_gt (s : State) {o : Nat} (ho : 0x1FFF < o) : hostVideoRead s o = none :=
  if_neg (Nat.not_le.mpr ho)

/-! ### What an action of the host can do (R262 to R267) -/

/-- The two states differ in registers, flags, PC, SP and the halted flag at most. -/
structure State.SameButRegisters (s t : State) : Prop where
  vram : t.vram = s.vram
  tiles : t.tiles = s.tiles
  hostMem : t.hostMem = s.hostMem
  params : t.params = s.params
  faulted : t.faulted = s.faulted

/-- A host's write to video memory that is not refused is a store at a mapped address of the window. -/
theorem hostVideoWrite_next {o : Nat} {v : Byte} {s t : State} (h : hostVideoWrite o v s = .next t) :
    ∃ x, s.mapped x = true ∧ t = s.storeByte x v := by
  by_cases ho : o ≤ 0x1FFF
  · rw [hostVideoWrite_of_le ho] at h
    cases h
    have hx : (BitVec.ofNat 16 (0x8000 + o)).toNat = 0x8000 + o := by
      rw [BitVec.toNat_ofNat]
      omega
    exact ⟨_, s.mapped_of_inVideo (inVideo_of_toNat_eq ho hx), (s.bus_eq_video ho hx v).1.symm⟩
  · rw [hostVideoWrite_of_gt (Nat.not_le.mp ho)] at h
    exact nomatch h

theorem hostMemWrite_next {x : Word} {v : Byte} {s t : State} (h : hostMemWrite x v s = .next t) :
    s.mapped x = true ∧ t = s.storeByte x v := by
  unfold hostMemWrite at h
  split at h
  · next hown => cases h; exact ⟨State.mapped_of_hostOwns hown, rfl⟩
  · exact nomatch h

theorem hostResume_next {s t : State} (h : hostResume s = .next t) : t = s.setHalted false := by
  unfold hostResume at h
  split at h
  · cases h; rfl
  · exact nomatch h

theorem hostWriteHalted_next {v : Bool} {s t : State} (h : hostWriteHalted v s = .next t) : t = s.setHalted v := by
  unfold hostWriteHalted at h
  split at h
  · cases h; rfl
  · exact nomatch h

/-- All Execute can do when it answers a next state: nothing, or the meaning of its instruction (R263). -/
theorem hostExecute_next {i : Instr} {s t : State} (h : hostExecute i s = .next t) : t = s ∨ exec i s = .next t := by
  unfold hostExecute whenRunning at h
  split at h
  · exact nomatch h
  split at h
  · cases h; exact Or.inl rfl
  split at h
  · exact Or.inr h
  · cases h; exact Or.inl rfl

/-- What an action that answers a next state does: run one instruction, reset, write registers, flags, PC, SP or the
halted flag (or nothing), or store one byte at a mapped address. -/
inductive HostEffect (act : HostAction) (s : State) : State → Prop where
  | ran {t : State} (i : Instr) (h : exec i s = .next t) : HostEffect act s t
  | wasReset (h : act = .reset) : HostEffect act s s.resetAgain
  | wroteRegisters {t : State} (h : s.SameButRegisters t) : HostEffect act s t
  | stored (x : Word) (v : Byte) (h : s.mapped x = true) : HostEffect act s (s.storeByte x v)

/-- All an action can do when it answers a next state. -/
theorem hostAct_next {act : HostAction} {s t : State} (h : hostAct act s = .next t) : HostEffect act s t := by
  cases act with
  | step =>
    obtain ⟨-, rfl | ⟨-, i, hexec⟩⟩ := step_next h
    · exact .wroteRegisters ⟨rfl, rfl, rfl, rfl, rfl⟩
    · exact .ran i hexec
  | execute i =>
    rcases hostExecute_next h with rfl | hexec
    · exact .wroteRegisters ⟨rfl, rfl, rfl, rfl, rfl⟩
    · exact .ran i hexec
  | reset => cases h; exact .wasReset rfl
  | resume => cases hostResume_next h; exact .wroteRegisters ⟨rfl, rfl, rfl, rfl, rfl⟩
  | writeHalted v => cases hostWriteHalted_next h; exact .wroteRegisters ⟨rfl, rfl, rfl, rfl, rfl⟩
  | writeReg r v => cases h; exact .wroteRegisters ⟨by simp, by simp, by simp, by simp, by simp⟩
  | writePair p v => cases h; exact .wroteRegisters ⟨by simp, by simp, by simp, by simp, by simp⟩
  | writeFlags | writeF | writePc | writeSp => cases h; exact .wroteRegisters ⟨rfl, rfl, rfl, rfl, rfl⟩
  | videoWrite o v =>
    obtain ⟨x, hm, rfl⟩ := hostVideoWrite_next h
    exact .stored x v hm
  | memWrite x v =>
    obtain ⟨hm, rfl⟩ := hostMemWrite_next h
    exact .stored x v hm

theorem hostAct_Inv {act : HostAction} {s t : State} (h : hostAct act s = .next t) (hs : s.Inv) : t.Inv := by
  cases hostAct_next h with
  | ran i hexec => exact exec_Inv hexec hs
  | wasReset => exact State.Inv_resetAgain hs
  | wroteRegisters hst => exact State.Inv_congr s t hst.vram hst.tiles hst.hostMem hst.params hs
  | stored x v hm => exact s.Inv_storeByte x v hm hs

theorem hostAct_params {act : HostAction} {s t : State} (h : hostAct act s = .next t) : t.params = s.params := by
  cases hostAct_next h with
  | ran i hexec => exact (exec_params_faulted hexec).1
  | wasReset => rfl
  | wroteRegisters hst => exact hst.params
  | stored x v => exact s.storeByte_params x v

/-- No action but reset changes the faulted latch where it answers a next state (R38, D11). -/
theorem hostAct_faulted {act : HostAction} {s t : State} (hact : act ≠ .reset) (h : hostAct act s = .next t) :
    t.faulted = s.faulted := by
  cases hostAct_next h with
  | ran i hexec => exact (exec_params_faulted hexec).2
  | wasReset hreset => exact absurd hreset hact
  | wroteRegisters hst => exact hst.faulted
  | stored x v => exact s.storeByte_faulted x v

/-! ### What an action of the host leaves behind (R251, U3) -/

/-- The machine left by an action: the next state it answers, after a BusFault the free value under this machine's
parameters with the latch set, else the machine before, with the latch set or as it was. -/
theorem hostTurn_cases (left : State) (act : HostAction) (s : State) :
    hostAct act s = .next (hostTurn left act s) ∨
    hostTurn left act s = { left with faulted := true, params := s.params } ∨
    hostTurn left act s = { s with faulted := true } ∨ hostTurn left act s = s := by
  unfold hostTurn
  cases hostAct act s with
  | next t => exact Or.inl rfl
  | fault w =>
    cases w with
    | busFault => exact Or.inr (Or.inl rfl)
    | undefinedOpcode => exact Or.inr (Or.inr (Or.inl rfl))
    | machineFaulted => exact Or.inr (Or.inr (Or.inr rfl))
  | refused => exact Or.inr (Or.inr (Or.inr rfl))

theorem hostTurn_params (left : State) (act : HostAction) (s : State) : (hostTurn left act s).params = s.params := by
  rcases hostTurn_cases left act s with h | h | h | h
  · exact hostAct_params h
  · rw [h]
  · rw [h]
  · rw [h]

/-- An action keeps the invariant if what a BusFault may leave is a state of the same machine that meets it. -/
theorem hostTurn_Inv {left : State} {act : HostAction} {s : State} (hleft : left.Inv) (hparams : left.params = s.params)
    (hs : s.Inv) : (hostTurn left act s).Inv := by
  rcases hostTurn_cases left act s with h | h | h | h
  · exact hostAct_Inv h hs
  · rw [h]
    exact State.Inv_congr left _ rfl rfl rfl hparams.symm hleft
  · rw [h]
    exact State.Inv_congr s _ rfl rfl rfl rfl hs
  · rwa [h]

theorem hostRun_Inv {turns : List (HostAction × State)} {s : State} (hs : s.Inv)
    (hleft : ∀ e ∈ turns, e.2.Inv ∧ e.2.params = s.params) : (hostRun turns s).Inv := by
  induction turns generalizing s with
  | nil => exact hs
  | cons turn turns ih =>
    obtain ⟨hinv, hparams⟩ := hleft turn List.mem_cons_self
    refine ih (hostTurn_Inv hinv hparams hs) fun e he => ?_
    rw [hostTurn_params]
    exact hleft e (List.mem_cons_of_mem _ he)

end Sys2Proof.Machine
end

section
/-! PROOFS. The statements on the video device and the invariant (spec/50_video_device.md). -/

namespace Sys2Proof.Machine

/-- Settles O19: a step is inert or runs one instruction, and the state each form leaves meets the invariant. -/
theorem stepKeepsInvariant : Obligations.StepKeepsInvariant := by
  intro s t hs h
  obtain ⟨-, rfl | ⟨-, i, hexec⟩⟩ := step_next h
  · exact hs
  · exact exec_Inv hexec hs

/-- Settles O20, by what an action can do, and by induction on the actions of a run. -/
theorem hostActionsKeepInvariant : Obligations.HostActionsKeepInvariant :=
  ⟨fun _ _ _ hs h => hostAct_Inv h hs, fun _ _ => hostRun_Inv⟩

/-- Settles O24, by read after write, the one row a write redraws, and the levels of a row. -/
theorem videoWriteRecomputesOneRow : Obligations.VideoWriteRecomputesOneRow := by
  intro s o v _
  refine ⟨fun q => s.videoRead_videoWrite o q v, fun t r _ hr hne => ?kept, fun ho c => ?redrawn⟩
  case kept => rw [s.tileRowAt_videoWrite o v t r hr, if_neg hne]
  case redrawn =>
    have hrow : o % 16 / 2 < 8 := by omega
    have hlow : 16 * (o / 16) + 2 * (o % 16 / 2) = o / 2 * 2 := by omega
    rw [s.tileRowAt_videoWrite o v _ _ hrow, if_pos ⟨ho, rfl, rfl⟩, hlow]
    exact tileRow_pixel _ _ c

/-- Settles O59, by the bound of the host's port, the bus at the same offset, and the levels of a consistent row. -/
theorem hostVideoPort : Obligations.HostVideoPort := by
  intro s o v
  refine ⟨fun ho => ?device, fun ho => ?refused, fun htiles t r c => ?tile⟩
  case device => exact ⟨hostVideoWrite_of_le ho v s, hostVideoRead_of_le s ho, fun _ hx => s.bus_eq_video ho hx v⟩
  case refused => exact ⟨hostVideoWrite_of_gt ho v s, hostVideoRead_of_gt s ho⟩
  case tile =>
    rw [hostTileRead, htiles t.val t.isLt r.val r.isLt]
    exact tileRow_pixel _ _ c

/-- Settles O18: the reset state is the launch with an empty image. -/
theorem resetMeetsInvariant : Obligations.ResetMeetsInvariant :=
  ⟨State.Inv_launch launchDefault rfl fun _ he => absurd he List.not_mem_nil, fun _ _ i => State.Inv_launch i⟩

end Sys2Proof.Machine
end

section
/-! PROOFS. Lemmas for the statements on exceptions (spec/60_exceptions.md R250 to R263): the two latch tests, every
outcome of an instruction, and how a step stops. -/

namespace Sys2Proof.Machine

/-! ### The latch tests of Step and Execute (R250, R263) -/

theorem whenRunning_of_faulted {s : State} (hf : s.faulted = true) (rest : Result) :
    whenRunning s rest = .fault .machineFaulted := by
  simp [whenRunning, hf]

theorem whenRunning_of_halted {s : State} (hf : s.faulted = false) (hh : s.halted = true) (rest : Result) :
    whenRunning s rest = .next s := by
  simp [whenRunning, hf, hh]

theorem whenRunning_of_running {s : State} (hf : s.faulted = false) (hh : s.halted = false) (rest : Result) :
    whenRunning s rest = rest := by
  simp [whenRunning, hf, hh]

theorem step_of_faulted {s : State} (hf : s.faulted = true) : step s = .fault .machineFaulted :=
  whenRunning_of_faulted hf _

theorem hostExecute_of_faulted {s : State} (hf : s.faulted = true) (i : Instr) :
    hostExecute i s = .fault .machineFaulted :=
  whenRunning_of_faulted hf _

theorem hostExecute_of_admits {s : State} {i : Instr} (hf : s.faulted = false) (hh : s.halted = false)
    (h : s.admits i = true) : hostExecute i s = exec i s := by
  rw [hostExecute, whenRunning_of_running hf hh, if_pos h]

theorem hostExecute_of_not_admits {s : State} {i : Instr} (hf : s.faulted = false) (hh : s.halted = false)
    (h : s.admits i = false) : hostExecute i s = .next s := by
  rw [hostExecute, whenRunning_of_running hf hh, h]
  rfl

/-! ### The families the source leaves without rules (R98) -/

theorem State.refusesByte_of_sm83 {s : State} (h : s.params.unspecFamilies = .sm83) (op : Byte) :
    s.refusesByte op = false := by
  simp [State.refusesByte, h]

theorem State.refusesByte_of_refuse {s : State} (h : s.params.unspecFamilies = .refuse) (op : Byte) :
    s.refusesByte op = unspecByte op := by
  simp [State.refusesByte, h]

theorem State.admits_of_not_wellFormed (s : State) {i : Instr} (h : i.wellFormed = false) : s.admits i = false := by
  simp [State.admits, h]

theorem State.admits_of_sm83 {s : State} {i : Instr} (hi : i.wellFormed = true)
    (h : s.params.unspecFamilies = .sm83) : s.admits i = true := by
  have hfamily : s.refusesByte = fun _ => false := funext (State.refusesByte_of_sm83 h)
  simp [State.admits, hi, hfamily]

theorem State.admits_of_refuse {s : State} {i : Instr} {op : Byte} {rest : List Byte} (hi : i.wellFormed = true)
    (h : s.params.unspecFamilies = .refuse) (henc : encode i = op :: rest) : s.admits i = !unspecByte op := by
  simp [State.admits, hi, henc, State.refusesByte_of_refuse h]

/-! ### Every outcome of an instruction (R251, R253) -/

/-- The addresses an instruction may access: its operand bytes, the byte at HL, and the stack (R251). -/
def State.accessible (s : State) : List Word := [s.pc + 1, s.pc + 2, s.hl, s.sp, s.sp + 1, s.sp - 1, s.sp - 2]

theorem formAccesses_accessible (f : Form) (s : State) : ∀ e ∈ formAccesses f s, e.1 ∈ s.accessible := by
  cases f with
  | retCc cc | jpCc cc | callCc cc => simp only [formAccesses]; split <;> simp [State.accessible]
  | _ => simp [formAccesses, State.accessible]

/-- A row of one of the 55 bytes raises UndefinedOpcode of its byte. -/
theorem exec_of_form_unrecognized {i : Instr} {op : Byte} (h : i.form = .unrecognized op) (s : State) :
    exec i s = undefinedOpcode op s := by
  rw [exec_eq_runForm, h]
  rfl

/-- The row of the byte 0xCB reads the byte after it, then makes the accesses of the form that byte selects. -/
theorem exec_of_form_prefixByte {i : Instr} (h : i.form = .prefixByte) (s : State) :
    exec i s =
      accessOutcome s (formPost (cbForm (s.byteAt (s.pc + 1))) s)
        ((s.pc + 1, .fetch) :: formAccesses (cbForm (s.byteAt (s.pc + 1))) s) := by
  rw [exec_eq_runForm, h, runForm_prefixByte, memRead, runForm_outcome _ s (formPlain_cbForm _)]
  rfl

/-- A row makes a list of accesses, completing or faulting at the first unmapped one, or raises UndefinedOpcode. -/
theorem exec_outcome (i : Instr) (s : State) :
    (∃ t as, exec i s = accessOutcome s t as ∧ ∀ e ∈ as, e.1 ∈ s.accessible) ∨
    i.isUnrecognized = true ∧ ∃ op, exec i s = undefinedOpcode op s := by
  by_cases hp : formPlain i.form = true
  · rw [exec_eq_runForm, runForm_outcome _ s hp]
    exact Or.inl ⟨_, _, rfl, formAccesses_accessible _ s⟩
  cases hform : i.form with
  | unrecognized op =>
    exact Or.inr ⟨by rw [Instr.isUnrecognized, hform], op, exec_of_form_unrecognized hform s⟩
  | prefixByte =>
    refine Or.inl ⟨_, _, exec_of_form_prefixByte hform s, List.forall_mem_cons.mpr ⟨?_, formAccesses_accessible _ s⟩⟩
    simp [State.accessible]
  | _ => exact absurd (by rw [hform]; rfl) hp

theorem undefinedOpcode_fault {op : Byte} {s : State} {w : Fault} (h : undefinedOpcode op s = .fault w) :
    w = .undefinedOpcode op s.pc ∧ s.params.undefPolicy = .fatal := by
  unfold undefinedOpcode at h
  split at h
  · exact nomatch h
  · next hp => cases h; exact ⟨rfl, hp⟩

theorem undefinedOpcode_not_refused (op : Byte) (s : State) (why : Refusal) :
    undefinedOpcode op s ≠ .refused why := by
  unfold undefinedOpcode
  split <;> exact fun h => nomatch h

theorem exec_not_refused (i : Instr) (s : State) (why : Refusal) : exec i s ≠ .refused why := by
  rcases exec_outcome i s with ⟨t, as, h, -⟩ | ⟨-, op, h⟩
  · rw [h]; exact accessOutcome_not_refused s t as why
  · rw [h]; exact undefinedOpcode_not_refused op s why

/-- All exec can do when it faults. -/
theorem exec_fault {i : Instr} {s : State} {w : Fault} (h : exec i s = .fault w) :
    (∃ x k, w = .busFault x k ∧ s.mapped x = false ∧ x ∈ s.accessible) ∨
    ∃ op, w = .undefinedOpcode op s.pc ∧ s.params.undefPolicy = .fatal ∧ i.isUnrecognized = true := by
  rcases exec_outcome i s with ⟨t, as, hexec, has⟩ | ⟨hi, op, hexec⟩
  · obtain ⟨e, he, hm, hw⟩ := accessOutcome_fault (hexec.symm.trans h)
    exact Or.inl ⟨e.1, e.2, hw, hm, has e he⟩
  · obtain ⟨hw, hfatal⟩ := undefinedOpcode_fault (hexec.symm.trans h)
    exact Or.inr ⟨op, hw, hfatal, hi⟩

theorem exec_completes {i : Instr} {s : State} (hm : ∀ x, s.mapped x = true)
    (hinert : s.params.undefPolicy = .inert) : ∃ t, exec i s = .next t := by
  rcases exec_outcome i s with ⟨t, as, hexec, -⟩ | ⟨-, op, hexec⟩
  · exact ⟨t, hexec.trans (accessOutcome_of_mapped fun e _ => hm e.1)⟩
  · exact ⟨s, hexec.trans (undefinedOpcode_of_inert hinert op)⟩

/-! ### How a step stops (R250, R256) -/

/-- All a read can do when it faults. -/
theorem memRead_fault {s : State} {x : Word} {k : Access} {rest : Byte → Result} {w : Fault}
    (h : memRead s x k rest = .fault w) : w = .busFault x k ∨ rest (s.byteAt x) = .fault w := by
  unfold memRead at h
  split at h
  · exact Or.inr h
  · cases h; exact Or.inl rfl

theorem step_of_unmapped {s : State} (hf : s.faulted = false) (hh : s.halted = false) (hm : s.mapped s.pc = false) :
    step s = .fault (.busFault s.pc .fetch) := by
  rw [step, whenRunning_of_running hf hh]
  exact memRead_of_unmapped s s.pc .fetch _ hm

theorem step_of_main {s : State} (hf : s.faulted = false) (hh : s.halted = false) (hm : s.mapped s.pc = true)
    (hr : s.refusesByte (s.byteAt s.pc) = false) (hcb : s.byteAt s.pc ≠ 0xCB) :
    step s = exec (decodeMain (s.byteAt s.pc)) s := by
  rw [step_of_mapped s hf hh hm, hr, if_neg hcb]
  rfl

theorem step_of_cb {s : State} (hf : s.faulted = false) (hh : s.halted = false) (hm : s.mapped s.pc = true)
    (hr : s.refusesByte (s.byteAt s.pc) = false) (hcb : s.byteAt s.pc = 0xCB) :
    step s = memRead s (s.pc + 1) .fetch fun op2 => exec (decodeCb op2) s := by
  rw [step_of_mapped s hf hh hm, hr, if_pos hcb]
  rfl

/-- The answer machineFaulted is that of a faulted machine alone (log 5). -/
theorem exec_fault_ne_machineFaulted (i : Instr) (s : State) : exec i s ≠ .fault .machineFaulted := by
  intro h
  rcases exec_fault h with ⟨x, k, hw, -⟩ | ⟨op, hw, -⟩
  · exact nomatch hw
  · exact nomatch hw

theorem step_fault_ne_machineFaulted {s : State} (hf : s.faulted = false) : step s ≠ .fault .machineFaulted := by
  intro h
  by_cases hh : s.halted = true
  · rw [step_of_halted hf hh] at h
    exact nomatch h
  rw [step, whenRunning_of_running hf (by simpa using hh)] at h
  rcases memRead_fault h with hw | h
  · exact nomatch hw
  split at h
  · obtain ⟨hw, -⟩ := undefinedOpcode_fault h
    exact nomatch hw
  split at h
  · rcases memRead_fault h with hw | h
    · exact nomatch hw
    · exact exec_fault_ne_machineFaulted _ _ h
  · exact exec_fault_ne_machineFaulted _ _ h

/-- A step at an unrecognized byte, refused by UNSPEC_FAMILIES or not, raises UndefinedOpcode of it (R252). -/
theorem step_of_isUnrecognized {s : State} (hf : s.faulted = false) (hh : s.halted = false)
    (hm : s.mapped s.pc = true) (hu : (decodeMain (s.byteAt s.pc)).isUnrecognized = true) :
    step s = undefinedOpcode (s.byteAt s.pc) s := by
  obtain ⟨hform, hcb⟩ := form_of_isUnrecognized _ hu
  cases hr : s.refusesByte (s.byteAt s.pc) with
  | true => exact step_of_refusesByte hf hh hm hr
  | false => rw [step_of_main hf hh hm hr hcb, exec_of_form_unrecognized hform]

/-! ### The faulted latch (R251, D11) -/

theorem drive_of_fault {left s : State} {w : Fault} (h : step s = .fault w) :
    drive left s = afterOutcome left s (.fault w) :=
  congrArg (afterOutcome left s) h

/-- A faulted machine is driven nowhere. -/
theorem drive_of_faulted {left s : State} (hf : s.faulted = true) : drive left s = s :=
  drive_of_fault (step_of_faulted hf)

/-- Every stop leaves the latch set, but the answer of a machine on which it was set before. -/
theorem afterOutcome_fault_faulted {left s : State} {w : Fault} (h : w ≠ .machineFaulted) :
    (afterOutcome left s (.fault w)).faulted = true := by
  cases w with
  | busFault | undefinedOpcode => rfl
  | machineFaulted => exact absurd rfl h

theorem drive_faulted_of_fault {left s : State} {w : Fault} (h : step s = .fault w) :
    (drive left s).faulted = true := by
  cases hf : s.faulted with
  | true => rw [drive_of_faulted hf, hf]
  | false =>
    rw [drive_of_fault h]
    exact afterOutcome_fault_faulted fun hw => step_fault_ne_machineFaulted hf (hw ▸ h)

/-- No action but reset clears the latch. -/
theorem hostTurn_faulted (left : State) {act : HostAction} {s : State} (hact : act ≠ .reset) (hf : s.faulted = true) :
    (hostTurn left act s).faulted = true := by
  rcases hostTurn_cases left act s with h | h | h | h
  · exact (hostAct_faulted hact h).trans hf
  · rw [h]
  · rw [h]
  · rwa [h]

end Sys2Proof.Machine
end

section
/-! PROOFS. The statements on exceptions and on the host's Execute (spec/60_exceptions.md). -/

namespace Sys2Proof.Machine

/-- Settles O8: a stop of a step sets the latch, and no action that answers a next state changes it but reset. -/
theorem faultedLatchStopsTheMachine : Obligations.FaultedLatchStopsTheMachine := by
  refine ⟨?_, ?_, ?_, ?_, ?_⟩
  · exact fun _ _ _ => drive_faulted_of_fault
  · exact fun _ _ _ _ => drive_of_fault
  · exact fun left s hf => ⟨step_of_faulted hf, drive_of_faulted hf, hostExecute_of_faulted hf,
      fun _ hact => hostTurn_faulted left hact hf⟩
  · intro s t h
    obtain ⟨hf, -⟩ := step_next h
    obtain ⟨-, hlatch⟩ := step_params_faulted h
    exact ⟨hf, hlatch.trans hf⟩
  · exact fun s => ⟨s.resetAgain, rfl, rfl⟩

/-- Settles O9: the row and the step both raise UndefinedOpcode of the byte, which the policy decides. -/
theorem unrecognizedByteIsInertOrFatal : Obligations.UnrecognizedByteIsInertOrFatal := by
  intro op s hu
  obtain ⟨hform, -⟩ := form_of_isUnrecognized op hu
  rw [exec_of_form_unrecognized hform]
  refine ⟨fun h => undefinedOpcode_of_inert h op, fun h => undefinedOpcode_of_fatal h op, ?_⟩
  rintro hf hh hm rfl
  rw [step_of_isUnrecognized hf hh hm hu]
  exact ⟨fun h => undefinedOpcode_of_inert h _, fun h => undefinedOpcode_of_fatal h _⟩

/-- Settles O57, by every outcome of an instruction. -/
theorem onlyListedConditionsStop : Obligations.OnlyListedConditionsStop :=
  fun i s => ⟨exec_not_refused i s, fun _ => exec_fault⟩

/-- Settles O58, by every outcome of an instruction. -/
theorem everyInstructionCompletesWhereMapped : Obligations.EveryInstructionCompletesWhereMapped :=
  fun _ _ => exec_completes

/-- Settles O5: the step and the decoder read the same one or two bytes. -/
theorem stepRunsDecodedInstruction : Obligations.StepRunsDecodedInstruction := by
  intro s i hf hh hm hr
  refine ⟨fun hcb hdecode => ?main, fun hcb hm2 hdecode => ?cb⟩
  case main =>
    rw [decode_main hcb] at hdecode
    cases hdecode
    exact step_of_main hf hh hm hr hcb
  case cb =>
    rw [hcb, decode_cb] at hdecode
    cases hdecode
    rw [step_of_cb hf hh hm hr hcb, memRead_of_mapped _ _ _ _ hm2]

/-- Settles O6, by the step in each of the four cases. -/
theorem fetchFaultsInOrder : Obligations.FetchFaultsInOrder := by
  intro s
  refine ⟨step_of_faulted, step_of_halted, step_of_unmapped, fun hf hh hm hcb hfamily hm2 => ?_⟩
  rw [step_of_cb hf hh hm (State.refusesByte_of_sm83 hfamily _) hcb]
  exact memRead_of_unmapped s (s.pc + 1) .fetch _ hm2

/-- Settles O60, by the two latch tests and which values Execute admits. -/
theorem executeRunsWithoutFetch : Obligations.ExecuteRunsWithoutFetch := by
  intro s i
  refine ⟨fun hf => hostExecute_of_faulted hf i, fun hf hh => whenRunning_of_halted hf hh _, fun hf hh => ?_⟩
  refine ⟨fun hi hfamily => ?sm83, fun hi => ?noInstr, fun op rest hi hfamily henc => ?refuse⟩
  case sm83 => exact hostExecute_of_admits hf hh (State.admits_of_sm83 hi hfamily)
  case noInstr => exact hostExecute_of_not_admits hf hh (s.admits_of_not_wellFormed hi)
  case refuse =>
    have hadmits := State.admits_of_refuse hi hfamily henc
    exact ⟨fun hop => hostExecute_of_not_admits hf hh (by rw [hadmits, hop]; rfl),
      fun hop => hostExecute_of_admits hf hh (by rw [hadmits, hop]; rfl)⟩

end Sys2Proof.Machine
end

section
/-! PROOFS. The state after reset (spec/70_reset_and_hazards.md R280). -/

namespace Sys2Proof.Machine

/-- Under HOST_REGION = FLAT the host owns every address outside the window (R52). -/
theorem State.mapped_of_flatRegion {s : State} (h : s.params.hostRegion = flatRegion) (x : Word) :
    s.mapped x = true := by
  cases hv : inVideo x with
  | true => exact s.mapped_of_inVideo hv
  | false =>
    have hout := (inVideo_eq_false x).mp hv
    refine State.mapped_of_hostOwns ((hostOwns_eq_true s.params x).mpr ⟨hout, ?_⟩)
    rw [h]
    rcases hout with hlow | hhigh
    · exact ⟨⟨0x0000, 0x7FFF⟩, List.mem_cons_self, Nat.zero_le _, Nat.le_of_lt_succ hlow⟩
    · exact ⟨⟨0xA000, 0xFFFF⟩, List.mem_cons_of_mem _ List.mem_cons_self, hhigh, Nat.le_of_lt_succ x.isLt⟩

/-- Empty memories read 0x00 at every address (R245, log 2). -/
theorem State.byteAt_of_empty {s : State} (hv : s.vram = []) (hm : s.hostMem = []) (x : Word) :
    s.byteAt x = fillByte := by
  cases hx : inVideo x with
  | true => rw [s.byteAt_of_inVideo hx, State.videoRead, hv, sparseGet]
  | false => rw [s.byteAt_of_not_inVideo hx, hm, sparseGet]

theorem blankRow_pixel (c : Fin 8) : blankRow.pixel c = 0 := by
  revert c
  decide

/-- Settles O17: the fields of the reset state, its empty memories, and its region. -/
theorem resetValues : Obligations.ResetValues := by
  refine ⟨fun r => ?_, rfl, rfl, rfl, rfl, rfl, fun _ => rfl, fun _ _ => blankRow_pixel, ?_, ?_, ?_⟩
  · cases r <;> rfl
  · exact State.byteAt_of_empty rfl rfl
  · exact State.mapped_of_flatRegion rfl
  · exact fun s => ⟨rfl, rfl, rfl⟩

end Sys2Proof.Machine
end
